-- ==== Sys2Proof/Word.lean ====
section
/-! DEFINITION. The word types of the part (00, conventions): the memory bus is 32 bits wide with byte
addresses of 24 bits, the valley link carries 16-bit units, the time base is a 32-bit count of milliseconds. -/

namespace Sys2Proof

/-- A byte of memory or of the route flash. -/
abbrev Byte := BitVec 8

/-- A unit of the valley link, and a halfword. -/
abbrev Half := BitVec 16

/-- A word of the memory bus. -/
abbrev Word := BitVec 32

/-- A byte address of the memory bus: 24 address lines (00, electrical summary), 16 MiB. -/
abbrev Addr := BitVec 24

/-- A value of the time base (R35): milliseconds modulo 2 to the 32. -/
abbrev Time := BitVec 32

/-- The byte enables of a bus access, lane 0 being the least significant byte of the word. -/
abbrev Lanes := BitVec 4

/-- A natural number narrowed to a word. -/
abbrev wordOf (n : Nat) : Word := BitVec.ofNat 32 n

/-- A signed number narrowed to a word, in two's complement (R180). -/
abbrev wordOfInt (n : Int) : Word := BitVec.ofInt 32 n

end Sys2Proof
end

