-- ==== Sys2Proof/Config.lean ====
section
/-! DEFINITION. What the spec leaves open and no state decides: the free values. What an implementation fixes for
one car stands in the configuration block (R37), which is state (the configuration store) and is read by the
accessors of Machine/Operands.lean. -/

namespace Sys2Proof

/-- Free value (log 6): the order in which units act where the spec lets either be first and the part goes on:
the order in which the units hand the trip causes of one event (R87), whether a replaced authority or the
window change it brings reaches the Supervisor first (R145), and the order in which groups handed at one moment join the
insert queue (R168, log 9); and the shadow allowance that R152 does not state (log 23). It has no body: nothing can be proved of its value.
It is applied to the counter `State.freeIndex`, so each draw is a fresh one. -/
opaque Config.freeOrder : Nat → Nat

end Sys2Proof
end

