-- ==== Sys2Proof/Syntax.lean ====
section
/-! DEFINITION. The commands of the part: one constructor of `Instr` for each row of spec/opcode_table.json.
The table gives no operands; each constructor carries what the event brings from outside the part (log 7). -/

namespace Sys2Proof

/-- The three tooth channels (R41). -/
inductive Channel where
  | pinionA
  | pinionB
  | wheel
  deriving DecidableEq, Repr

/-- The two rack pinions. -/
inductive Pinion where
  | a
  | b
  deriving DecidableEq, Repr

/-- Where the analog input of a comparator stands (R42): below the hysteresis band, in the band below the
threshold, in the band at or above the threshold, or above the band. -/
inductive InputLevel where
  | below
  | bandLow
  | bandHigh
  | above
  deriving DecidableEq, Repr

/-- Entrance e of the manual is number e - 1 here. -/
abbrev Entrance := Fin 4

/-- The four service slots, 0 to 3. -/
abbrev Slot := Fin 4

/-- The operations a service slot can name (11.3). -/
inductive Operation where
  | flashRead
  | flashProgram
  | flashErase
  | profileInvalidate
  | profileRead
  | measure
  | tripClear
  | brakeTest
  | stable
  | resume
  deriving DecidableEq, Repr

/-- The kinds of frame the valley station sends (11.6). -/
inductive InboundKind where
  | authority
  | restrictionSet
  | restrictionLift
  | stopOrder
  | stopRelease
  | entrancePermit
  | heartbeat
  | text
  deriving DecidableEq, Repr

/-- The commands. The mnemonic of each row stands in LAWS.json; the rule is the row's. -/
inductive Instr where
  /-- POWER_ON_RESET (R40). -/
  | powerOnReset
  /-- CCR (R179). `last`: what comes on the link until a SERVICE_READ is stopped at the next byte boundary; it is lost
  (R34). -/
  | ccr (last : List Byte)
  /-- CONFIG_READ (R36): the transaction ends, with the 32 bytes read. -/
  | configRead (data : List Byte)
  /-- LOADING_LIMIT (R36). -/
  | loadingLimit
  /-- ENTER_RUN (R38). -/
  | enterRun
  /-- PLAIN_MEMORY_ACCESS (R165): a computer access of the lanes enabled at a byte address. -/
  | plainMemoryAccess (addr : Addr) (lanes : Lanes) (isWrite : Bool) (data : Word)
  /-- ABSORBED_WRITE (R166): a computer write. -/
  | absorbedWrite (addr : Addr) (lanes : Lanes) (data : Word)
  /-- DIRECTION (R94): a full-word write of `data` at the address of the DIRECTION word. -/
  | direction (addr : Addr) (data : Word)
  /-- TRACTION (R92). -/
  | traction (addr : Addr) (data : Word)
  /-- RACK_BRAKE_RELEASE (R100): the word RELEASE. -/
  | rackBrakeRelease (addr : Addr)
  /-- RACK_BRAKE_APPLY (R103): the word APPLY. -/
  | rackBrakeApply (addr : Addr)
  /-- SERVICE_BRAKE (R111). -/
  | serviceBrake (addr : Addr) (data : Word)
  /-- OPEN (R125): the word OPEN, at the address of an entrance's request word. -/
  | openRequest (addr : Addr)
  /-- CLOSE (R127). -/
  | closeRequest (addr : Addr)
  /-- NONE_REQUEST (R127). -/
  | noneRequest (addr : Addr)
  /-- ISOLATE (R128). -/
  | isolate (addr : Addr)
  /-- RESTORE (R128). -/
  | restore (addr : Addr)
  /-- SLOT_CONTROL_CLEAR (R174): word 0 of a slot with go and done clear; `rest` gives the other bits. -/
  | slotControlClear (addr : Addr) (rest : Word)
  /-- SLOT_BAD_OPERATION (R175): go with an operation code `op`; `rest` gives the other bits. -/
  | slotBadOperation (addr : Addr) (op : Byte) (rest : Word)
  /-- FLASH_READ (R28): go with code 01h; `rest` gives the bits of word 0 beside go and the code. -/
  | flashRead (addr : Addr) (rest : Word)
  /-- FLASH_PROGRAM (R29). -/
  | flashProgram (addr : Addr) (rest : Word)
  /-- FLASH_ERASE (R29). -/
  | flashErase (addr : Addr) (rest : Word)
  /-- PROFILE_INVALIDATE (R21). -/
  | profileInvalidate (addr : Addr) (rest : Word)
  /-- PROFILE_READ (R22). -/
  | profileRead (addr : Addr) (rest : Word)
  /-- MEASURE (R56). -/
  | measure (addr : Addr) (rest : Word)
  /-- TRIP_CLEAR (R90). -/
  | tripClear (addr : Addr) (rest : Word)
  /-- BRAKE_TEST (R114). -/
  | brakeTest (addr : Addr) (rest : Word)
  /-- STABLE (R157). -/
  | stable (addr : Addr) (rest : Word)
  /-- RESUME (R160). -/
  | resume (addr : Addr) (rest : Word)
  /-- SLOT_DISPATCH (R175). -/
  | slotDispatch (slot : Slot)
  /-- CONSUMER_INDEX_WRITE (R170). -/
  | consumerIndexWrite (addr : Addr) (data : Word)
  /-- OUTBOUND_PRODUCER_WRITE (R171). -/
  | outboundProducerWrite (addr : Addr) (data : Word)
  /-- IMAGE_READ (R178). -/
  | imageRead (addr : Addr) (lanes : Lanes)
  /-- GROUP_ENTERS_QUEUE (R168). -/
  | groupEntersQueue
  /-- MEMORY_PORT_GRANT (R169). -/
  | memoryPortGrant
  /-- FILL (R3): the transaction ends, with the 32 bytes read. -/
  | fill (data : List Byte)
  /-- SERVICE_READ (R28): the transaction goes on, with the bytes read up to the end of a word (R24), and ends once the
  last word is taken (log 29). -/
  | serviceRead (data : List Byte)
  /-- PROGRAM_DATA_READ (R31). -/
  | programDataRead
  /-- WRITE_ENABLE (R31). -/
  | writeEnable
  /-- PROGRAM_OR_ERASE_END (R32). -/
  | programOrEraseEnd
  /-- POLL_READY (R32). -/
  | pollReady
  /-- STATUS_POLL (R32): the transaction ends, with the status byte read. -/
  | statusPoll (status : Byte)
  /-- PHASE_CHANGE (R43): the two comparator inputs of a channel as they now stand. -/
  | phaseChange (channel : Channel) (input1 input2 : InputLevel)
  /-- TOOTH_INTERVAL_EXPIRY (R45). -/
  | toothIntervalExpiry (channel : Channel)
  /-- STANDSTILL (R64). -/
  | standstill
  /-- MARKER_EVENT (R68): a strobe with the code on the port. -/
  | markerEvent (code : BitVec 10)
  /-- SCAN_START (R50). -/
  | scanStart
  /-- CONVERSION_END (R51): the raw code of the conversion in progress. -/
  | conversionEnd (code : BitVec 12)
  /-- RELEASE_TIMEOUT (R102). -/
  | releaseTimeout
  /-- STAGE_REACHED (R106). -/
  | stageReached
  /-- APPLY_WINDOW_EXPIRY (R106). -/
  | applyWindowExpiry
  /-- PRESSURE_LOSS (R110): the loss timer of a pinion. -/
  | pressureLoss (pinion : Pinion)
  /-- TEST_STEP_EXPIRY (R115). -/
  | testStepExpiry
  /-- CLOSED_LOCKED_INPUT (R129): the input of an entrance as it now reads. -/
  | closedLockedInput (entrance : Entrance) (level : Bool)
  /-- OPEN_END_INPUT (R129). -/
  | openEndInput (entrance : Entrance) (level : Bool)
  /-- OBSTRUCTION_INPUT (R131). -/
  | obstructionInput (entrance : Entrance) (level : Bool)
  /-- SETTLE_EXPIRY (R132). -/
  | settleExpiry (entrance : Entrance)
  /-- ENTRANCE_MOTION_TIMEOUT (R130). -/
  | entranceMotionTimeout (entrance : Entrance)
  /-- ENTRANCE_HELD_EXPIRED (R126). -/
  | entranceHeldExpired (entrance : Entrance)
  /-- FRAME_REJECTED (R143): a reception ends; `partialUnit` says that a unit was broken off. -/
  | frameRejected (units : List Half) (partialUnit : Bool)
  /-- AUTHORITY (R145): a reception ends, with the units received. -/
  | authority (units : List Half)
  /-- RESTRICTION_SET (R147). -/
  | restrictionSet (units : List Half)
  /-- RESTRICTION_LIFT (R147). -/
  | restrictionLift (units : List Half)
  /-- STOP_ORDER (R148). -/
  | stopOrder (units : List Half)
  /-- STOP_RELEASE (R148). -/
  | stopRelease (units : List Half)
  /-- ENTRANCE_PERMIT (R149). -/
  | entrancePermit (units : List Half)
  /-- HEARTBEAT (R144). -/
  | heartbeat (units : List Half)
  /-- TEXT (R149). -/
  | text (units : List Half)
  /-- LINK_OVERRUN (R142). -/
  | linkOverrun
  /-- LINK_CONFLICT (R139): LSELM asserted at an attempt or during a send. -/
  | linkConflict
  /-- RESET_WAIT_END (R140). -/
  | resetWaitEnd
  /-- LINK_FAULT (R141). -/
  | linkFault
  /-- LINK_FAULT_CLEARED (R141). -/
  | linkFaultCleared
  /-- SEND_ATTEMPT (R153). -/
  | sendAttempt
  /-- FRAME_SENT (R138). -/
  | frameSent
  /-- OUTBOUND_SLOT_READ (R153). -/
  | outboundSlotRead
  /-- AUTHORITY_EXPIRY (R146). -/
  | authorityExpiry
  /-- PERMIT_EXPIRY (R149). -/
  | permitExpiry
  /-- LINK_LOSS_EXPIRY (R152). -/
  | linkLossExpiry
  /-- SHADOW_EXPIRY (R152). -/
  | shadowExpiry
  /-- REPEAT (R144): a reception ends, with the units received. -/
  | repeatFrame (units : List Half)
  deriving DecidableEq, Repr

end Sys2Proof
end

