-- ==== Sys2Proof/Decode.lean ====
section
/-! DEFINITION. The code tables of 11.3 and 11.6 that name a command, and `decodeTableWord`. No row of
spec/opcode_table.json gives bits, so no word spells a command. -/

namespace Sys2Proof

/-- The command that a word spells by the bits of the opcode table: the table gives none for any row. -/
def decodeTableWord (_nbits _w : Nat) : Option Instr := none

/-- The operation codes of a slot's word 0 (11.3). -/
def Operation.code : Operation → Nat
  | .flashRead => 0x01
  | .flashProgram => 0x02
  | .flashErase => 0x03
  | .profileInvalidate => 0x10
  | .profileRead => 0x11
  | .measure => 0x20
  | .tripClear => 0x30
  | .brakeTest => 0x40
  | .stable => 0x50
  | .resume => 0x51

/-- The operation a code names; every other code names none (11.3). -/
def Operation.ofCode (c : Nat) : Option Operation :=
  if c = 0x01 then some .flashRead
  else if c = 0x02 then some .flashProgram
  else if c = 0x03 then some .flashErase
  else if c = 0x10 then some .profileInvalidate
  else if c = 0x11 then some .profileRead
  else if c = 0x20 then some .measure
  else if c = 0x30 then some .tripClear
  else if c = 0x40 then some .brakeTest
  else if c = 0x50 then some .stable
  else if c = 0x51 then some .resume
  else none

/-- The kind codes of the valley station's frames (11.6). -/
def InboundKind.code : InboundKind → Nat
  | .authority => 0x01
  | .restrictionSet => 0x02
  | .restrictionLift => 0x03
  | .stopOrder => 0x04
  | .stopRelease => 0x05
  | .entrancePermit => 0x06
  | .heartbeat => 0x07
  | .text => 0x08

/-- The inbound kind a code names (11.6). -/
def InboundKind.ofCode (c : Nat) : Option InboundKind :=
  if c = 0x01 then some .authority
  else if c = 0x02 then some .restrictionSet
  else if c = 0x03 then some .restrictionLift
  else if c = 0x04 then some .stopOrder
  else if c = 0x05 then some .stopRelease
  else if c = 0x06 then some .entrancePermit
  else if c = 0x07 then some .heartbeat
  else if c = 0x08 then some .text
  else none

end Sys2Proof
end

