-- ==== Sys2Proof/Machine/State.lean ====
section
/-! DEFINITION. The state of the part, unit by unit, as plain data; the reasons a step can stop; the state right
after the release of the power-on reset input. One structure for each unit, in the words of its state table
(R23, R48, R58, R77, R97, R120, R137, R164 and the chapters' prose). -/

namespace Sys2Proof.Machine

/-- Reasons to stop with a fault. The spec gives the part no stop: an event always leaves a next state
(CONFIG_FAULT of R39 and TRIP of R87 are states of the part, not stops). The one constructor is raised by no
command; it keeps the type inhabited for the interface. Safe: nothing answers it. -/
inductive Fault where
  /-- Raised by nobody: no event of the spec stops the part. Safe. -/
  | neverRaised
  deriving DecidableEq, Repr

/-- Reasons to refuse a command. -/
inductive Refusal where
  /-- Raised by an arm of `exec` whose command has no meaning yet. Safe: the model stops. -/
  | notModelled (mnemonic : String)
  deriving DecidableEq, Repr

/-! ### Small containers -/

/-- One value for each tooth channel. -/
structure PerChannel (α : Type) where
  a : α
  b : α
  w : α
  deriving DecidableEq, Repr

/-- One value for each of four: entrances or service slots. -/
structure Four (α : Type) where
  x0 : α
  x1 : α
  x2 : α
  x3 : α
  deriving DecidableEq, Repr

/-! ### Run Control (chapter 2, chapter 9) -/

/-- The run states (2.3). -/
inductive RunState where
  | loading
  | run
  | stabled
  | configFault
  deriving DecidableEq, Repr

/-- Run Control: the run state and the time base (R35, R36), and the slot of its last STABLE or RESUME while that
slot's completion has not reached memory (R157, R160). -/
structure RunUnit where
  runState : RunState
  timeBase : Time
  completing : Option Slot
  deriving DecidableEq, Repr

/-! ### Shared names -/

/-- The direction word, the movement direction and the direction of an image field: NONE, UP, DOWN. -/
inductive Dir where
  | none
  | up
  | down
  deriving DecidableEq, Repr

/-- A sense of movement: a tooth event, a position step, an authority. -/
inductive Way where
  | up
  | down
  deriving DecidableEq, Repr

/-- The tracks (R1). -/
inductive Track where
  | main
  | loopA
  | loopB
  deriving DecidableEq, Repr

/-- A loop choice, and the loop track taken (R9, R145). -/
inductive LoopSel where
  | none
  | loopA
  | loopB
  deriving DecidableEq, Repr

/-- The kinds of segment (R1). -/
inductive Kind where
  | adhesion
  | rackEntry
  | rack
  deriving DecidableEq, Repr

/-- The sides of the car, of a platform and of a permit. -/
inductive Side where
  | left
  | right
  | both
  deriving DecidableEq, Repr

/-- The severities of a notice (R172). -/
inductive Severity where
  | info
  | warn
  | alarm
  deriving DecidableEq, Repr

/-- The reasons, in the order of the list of 11.3. -/
inductive Reason where
  | form | partOwned | unused | blocked | range | moving | stabled
  | notSecured | notStandstill | brakeNotApplied | notApplied | tripped | flashBusy | entrance | measurement
  | supply | runState | busy | fault | heldRequest | brake
  | noRelease | isolated | notClosed | notIsolated
  | check | number | field | linkRange | continuity | wrongTrack | stepLimit | lineEnd | recordBad | congestion
  | movement | trip | host | releaseTimeout | pressureLoss
  | distance | track | linkLoss | shadowExhausted | linkFault | rejectedCheck | rejectedForm | malformed | lockLoss
  | overspeedReason
  deriving DecidableEq, Repr

/-- The result codes of a service slot (R176). -/
inductive ResultCode where
  | ok
  | busy
  | refused
  | badOperand
  | badBuffer
  | timeout
  | aborted
  | failed
  deriving DecidableEq, Repr

/-- The trip causes, in the order of the table of R87. -/
inductive Cause where
  | overspeed
  | authorityOverrun
  | expiryOverrun
  | valleyStop
  | pinionDisagree
  | rollback
  | entranceOpenMoving
  | entranceUnlocked
  | brakePressureLoss
  | brakeApplyFault
  | measurementFault
  | supplyLow
  | rollaway
  | testMovement
  deriving DecidableEq, Repr

/-! ### Path Unit (chapter 10) -/

/-- The guarded words (R165): DEMAND words 0 to 3 and the four entrance request words. -/
inductive Guarded where
  | direction
  | traction
  | rackBrake
  | serviceBrake
  | entrance (e : Entrance)
  deriving DecidableEq, Repr

/-- The window map once taken: the base address of each window; the lengths are fixed (R37). -/
structure WindowMap where
  demand : Nat
  entrance : Nat
  service : Nat
  notice : Nat
  inbound : Nat
  outbound : Nat
  image : Nat
  deriving DecidableEq, Repr

/-- One access of the car computer on the computer-side bus. -/
structure Access where
  addr : Addr
  lanes : Lanes
  isWrite : Bool
  data : Word
  deriving DecidableEq, Repr

/-- What a word write of the part brings about when it reaches memory (R170 to R176). -/
inductive WriteEffect where
  /-- Nothing beyond the word. -/
  | plain
  /-- The value becomes the published notice producer (R172). -/
  | noticeProducer (value : Nat)
  /-- The INBOUND producer as last written to memory; the copy of a staging buffer is then written (R150). -/
  | inboundProducer (value : Nat) (buffer : Option Bool)
  /-- The OUTBOUND consumer as last written to memory (R171). -/
  | outboundConsumer (value : Nat)
  /-- The slot becomes DONE (R176). -/
  | slotDone (slot : Slot) (goOrder : Nat)
  /-- A word of a FLASH_READ's buffer, by the operation's go-acceptance order: once the insert queue has taken it the
  link clock runs on (R24). -/
  | flashWord (goOrder : Nat)
  /-- A word of a PROFILE_READ's buffer, by its slot: CCR withdraws it while it has not reached memory (R22). -/
  | recordWord (slot : Slot)
  deriving DecidableEq, Repr

/-- Where the data of a word read of the part goes (R168). -/
inductive ReadPurpose where
  /-- Operand word `index` (1 to 5) of a slot (R175). -/
  | operand (slot : Slot) (goOrder : Nat) (index : Nat)
  /-- Word `index` of the page buffer of a FLASH_PROGRAM (R31). -/
  | programData (goOrder : Nat) (index : Nat)
  /-- Word `index` of an OUTBOUND slot (R153). -/
  | outboundWord (index : Nat)
  deriving DecidableEq, Repr

/-- An entry of the insert queue (R164, R168): a rewrite carries no data of its own. -/
inductive QEntry where
  | write (addr : Addr) (data : Word) (effect : WriteEffect)
  | rewrite (word : Guarded)
  | read (addr : Addr) (purpose : ReadPurpose)
  deriving DecidableEq, Repr

/-- A notice as its unit hands it, not yet stamped (R172). `carried` is the count a NOTICES_DROPPED notice
carries, and 0 for every other notice (R173). -/
structure Notice where
  kind : Nat
  unit : Nat
  severity : Severity
  word2 : Word
  word3 : Word
  carried : Nat
  deriving DecidableEq, Repr

/-- A group of accesses handed to the insert queue (R168). -/
inductive Group where
  | notice (n : Notice)
  | inboundCopy (buffer : Bool) (entries : List QEntry)
  | completion (slot : Slot) (entries : List QEntry)
  | accesses (entries : List QEntry)
  deriving DecidableEq, Repr

/-- The states of a slot record (R174). -/
inductive SlotState where
  | idle
  | inFlight
  | done
  deriving DecidableEq, Repr

/-- A slot record (R164): state, operation code, go-acceptance order; the operand words returned so far and
whether the operation has been handed to its owner (R175). -/
structure SlotRec where
  state : SlotState
  op : Byte
  goOrder : Nat
  word1 : Option Word
  word2 : Option Word
  word3 : Option Word
  word4 : Option Word
  word5 : Option Word
  handed : Bool
  deriving DecidableEq, Repr

/-- The Path Unit (R164). `held` is the access held in LOADING (R36); `access` the computer's access waiting for
the port (R169); `busData` the word last given to the computer's data lines (R165, R178); `inboundWritten` and
`outboundWritten` the governor's two ring indices as last written to memory (R170, R171). `handed` is the model's own: the
groups that the event under way has handed, empty between events (R168, log 9). -/
structure PathUnit where
  map : Option WindowMap
  queue : List QEntry
  entering : List QEntry
  waiters : List Group
  handed : List Group
  passedOver : Nat
  allocated : Nat
  published : Nat
  noticeConsumer : Nat
  inboundConsumer : Nat
  outboundProducer : Nat
  inboundWritten : Nat
  outboundWritten : Nat
  dropped : Nat
  slots : Four SlotRec
  nextGo : Nat
  held : Option Access
  access : Option Access
  portBusy : Bool
  busData : Word
  deriving DecidableEq, Repr

/-! ### Route Flash Controller (chapter 2) -/

/-- The transaction in flight, by its kind, with its progress (R23, R25). A FILL covered by an invalidation is marked
for discard (R20). A SERVICE_READ holds how many bytes it has moved and those of the word not yet full (R24); the
others move no byte that anything sees before their end (log 10). -/
inductive Txn where
  | configRead (k : Nat)
  | fill (seg : Nat) (discard : Bool)
  | serviceRead (moved : Nat) (part : List Byte)
  | writeEnable
  | program
  | erase
  | statusPoll
  deriving DecidableEq, Repr

/-- The fill lockout (R30). -/
inductive Lockout where
  | clear
  | waiting
  | set
  deriving DecidableEq, Repr

/-- The three flash operations (2.2). -/
inductive FlashKind where
  | read
  | program
  | erase
  deriving DecidableEq, Repr

/-- A flash operation in the list or current: its slot, its go-acceptance order and its operands (R28, R29). -/
structure FlashOp where
  kind : FlashKind
  slot : Slot
  goOrder : Nat
  addr : Nat
  count : Nat
  buffer : Nat
  deriving DecidableEq, Repr

/-- The step of the current flash operation (R28, R31, R32). -/
inductive FlashStep where
  /-- A FLASH_READ whose SERVICE_READ is ready. -/
  | readReady
  /-- A FLASH_READ whose SERVICE_READ is in flight. -/
  | readMoving
  /-- Step 1 of a FLASH_PROGRAM: so many words have arrived. -/
  | dataReading (words : Nat)
  /-- Step 2: the WRITE_ENABLE waits for lockout SET. -/
  | enableReady
  /-- Step 2: the WRITE_ENABLE is in flight. -/
  | enableMoving
  /-- Step 3: the PROGRAM or ERASE is in flight. -/
  | writeMoving
  /-- The 1 ms wait before a status poll. -/
  | pollWaiting
  /-- A status poll is ready. -/
  | pollReady
  /-- A status poll is in flight. -/
  | pollMoving
  deriving DecidableEq, Repr

/-- The current flash operation: `ended` is the end of its PROGRAM or ERASE; `nextPoll` and `lastPoll` are counted
from there, in ms; `suppressed` says that CCR has taken its completion (R34). -/
structure CurrentFlash where
  op : FlashOp
  step : FlashStep
  ended : Time
  nextPoll : Nat
  lastPoll : Nat
  polls : Nat
  suppressed : Bool
  deriving DecidableEq, Repr

/-- The current service operation (R27). -/
inductive CurrentOp where
  | flash (c : CurrentFlash)
  | serviceFill (seg : Nat)
  deriving DecidableEq, Repr

/-- The Route Flash Controller (R23). The pending-request list is held as the segments of its waiting fills, in
order of request, and its flash operations; the class and key of a fill follow from its requesters (log 12).
`uncached` lists the segments whose fill congestion let be carried out for a PROFILE_READ alone: its record is not
placed (R22, log 33). -/
structure RfcUnit where
  inFlight : Option Txn
  fills : List Nat
  uncached : List Nat
  items : List FlashOp
  current : Option CurrentOp
  lockout : Lockout
  activeFill : Bool
  lineBuffer : List Byte
  pageBuffer : List Byte
  statusByte : Byte
  store : List Byte
  storeValid : Bool
  deriving DecidableEq, Repr

/-! ### Profile Unit (chapter 1) -/

/-- A line of the profile cache (R5): the record as its 32 bytes. -/
structure CacheLine where
  valid : Bool
  pinned : Bool
  tag : Nat
  age : Nat
  bytes : List Byte
  deriving DecidableEq, Repr

/-- The states of a route window entry (R9). -/
inductive EntryState where
  | present
  | filling
  | unavailable
  | bad
  deriving DecidableEq, Repr

/-- The link by which an entry was reached (R9). -/
inductive LinkKind where
  | main
  | alternate
  deriving DecidableEq, Repr

/-- An entry of the route window (R9). `track` is what is known of the track it lies on: its record's while it is or
was PRESENT, else the loop track that the link of a split it was reached by leads to (R2, R13, log 42). -/
structure Entry where
  seg : Nat
  via : LinkKind
  state : EntryState
  track : Option Track
  deriving DecidableEq, Repr

/-- The end kinds (R10); NONE while there is no reference segment (R9). -/
inductive EndKind where
  | none
  | distance
  | count
  | lineEnd
  | undecided
  | pending
  | unavailable
  | bad
  deriving DecidableEq, Repr

/-- A walk waiting for the record of `cur` (R16). -/
structure Walk where
  pos : Nat
  track : Track
  cur : Nat
  steps : Nat
  deriving DecidableEq, Repr

/-- A marker search waiting for the record of segment `next` (R18). -/
structure Search where
  code : Nat
  next : Nat
  deriving DecidableEq, Repr

/-- A PROFILE_READ waiting for its record (R22); `abandoned` after CCR. -/
structure ProfileRead where
  slot : Slot
  goOrder : Nat
  seg : Nat
  buffer : Nat
  abandoned : Bool
  deriving DecidableEq, Repr

/-- The Profile Unit (R5, R9, R13, R16, R18, R22). The cache is 16 sets of 4 lines. -/
structure ProfileUnit where
  cache : List (List CacheLine)
  window : List Entry
  refSeg : Option Nat
  front : Option Nat
  loopTaken : LoopSel
  endKind : EndKind
  rearUnresolved : Bool
  walk : Option Walk
  search : Option Search
  rebuild : Option Nat
  reads : List ProfileRead
  deriving DecidableEq, Repr

/-! ### Tooth Channel Unit and Analog Scan Unit (chapter 3) -/

/-- One tooth channel (R41): the comparator outputs (R42) and the phase levels after polarity. -/
structure ToothChannel where
  comp1 : Bool
  comp2 : Bool
  phase1 : Bool
  phase2 : Bool
  steps : Int
  lastEvent : Option Time
  phaseError : Bool
  armed : Bool
  deriving DecidableEq, Repr

/-- The eight sources of the converter, in the order of MEASURE's coding (11.3). -/
inductive Source where
  | pa
  | pb
  | ps
  | ph
  | inc
  | vs
  | cr1
  | cr2
  deriving DecidableEq, Repr

/-- A scaled value with its time (R48). -/
structure Reading where
  value : Int
  time : Option Time
  deriving DecidableEq, Repr

/-- The last values of the six field channels (R48, R54). -/
structure LastValues where
  pa : Reading
  pb : Reading
  ps : Reading
  ph : Reading
  inc : Reading
  vs : Reading
  deriving DecidableEq, Repr

/-- The measurement states (R53). -/
inductive MeasState where
  | notChecked
  | qualifying
  | valid
  | fault
  deriving DecidableEq, Repr

/-- The states of a limit window (R55). -/
inductive LimitState where
  | low
  | normal
  | high
  deriving DecidableEq, Repr

/-- An entry of the spot-request list (R56). -/
structure Spot where
  slot : Slot
  source : Source
  remaining : Nat
  made : Nat
  sum : Int
  low : Int
  high : Int
  lastCode : Nat
  deriving DecidableEq, Repr

/-- What a conversion in progress is for (R48, R57). -/
inductive ConvPurpose where
  | scanList
  | spot (slot : Slot)
  | discarded
  deriving DecidableEq, Repr

/-- The conversion in progress. -/
structure Conversion where
  source : Source
  purpose : ConvPurpose
  deriving DecidableEq, Repr

/-- The Analog Scan Unit (R48). `list` holds the scan-list conversions not yet begun, `started` the nominal start of
the last scan, from which the next is one period away (R50). -/
structure ScanUnit where
  running : Bool
  list : List Source
  started : Time
  checkDue : Nat
  meas : MeasState
  recovery : Bool
  cr1Passed : Bool
  last : LastValues
  phWindow : LimitState
  vsWindow : LimitState
  spots : List Spot
  conv : Option Conversion
  deriving DecidableEq, Repr

/-! ### Motion Unit (chapter 4) -/

/-- The position states (R67). -/
inductive PosState where
  | unknown
  | provisional
  | confirmed
  | doubtful
  deriving DecidableEq, Repr

/-- The source channel (R60). -/
inductive SourceChannel where
  | pinionA
  | wheel
  deriving DecidableEq, Repr

/-- The Motion Unit (R58). -/
structure MotionUnit where
  position : Nat
  posState : PosState
  track : Option Track
  source : SourceChannel
  accumulator : Int
  speeds : PerChannel Nat
  speed : Nat
  saturated : PerChannel Bool
  standstill : Bool
  standstillTimer : Time
  movement : Dir
  difference : Int
  rackEntryPending : Bool
  rollback : Nat
  pendingCount : Option Int
  correcting : Option Nat
  inclineTimer : Option Time
  deriving DecidableEq, Repr

/-! ### Speed Supervisor (chapter 5) -/

/-- The supervision states (R85). -/
inductive SupState where
  | normal
  | warn
  | service
  | trip
  deriving DecidableEq, Repr

/-- The kinds of target (R81), in the order of their numbering. -/
inductive TargetKind where
  | segmentLimit
  | restriction
  | authorityEnd
  | expiry
  | noAuthority
  | windowEnd
  deriving DecidableEq, Repr

/-- A target (R77, R81 to R83). -/
structure Target where
  kind : TargetKind
  point : Int
  distance : Int
  speed : Nat
  slack : Int
  deriving DecidableEq, Repr

/-- The Speed Supervisor (R77). The set of causes is a list without repeats, in the order the causes joined. -/
structure SupUnit where
  state : SupState
  limit : Nat
  targets : List Target
  firstCause : Option Cause
  causes : List Cause
  tripTime : Time
  acknowledged : Bool
  direction : Dir
  traction : Nat
  ceiling : Nat
  output : Nat
  rewriteWaiting : Bool
  claim : Nat
  completing : Option Slot
  deriving DecidableEq, Repr

/-! ### Rack Brake Controller (chapter 6) -/

/-- The rack brake states (R98), in the order of R97. -/
inductive BrakeState where
  | applied
  | releasing
  | released
  | applying
  | applyFault
  | testing
  deriving DecidableEq, Repr

/-- The RACK_BRAKE word (11.3). -/
inductive BrakeWord where
  | apply
  | release
  deriving DecidableEq, Repr

/-- A stage plan (R97, R105, R106). -/
structure StagePlan where
  count : Nat
  interval : Nat
  reached : Nat
  start : Time
  deriving DecidableEq, Repr

/-- The steps of a brake test (R115). -/
inductive TestStep where
  | aRelease
  | aHold
  | aApply
  | bRelease
  | bHold
  | bApply
  deriving DecidableEq, Repr

/-- The brake-test step record (R97, R115). -/
structure BrakeTest where
  step : TestStep
  start : Time
  slot : Slot
  aRelease : Option Nat
  aApply : Option Nat
  bRelease : Option Nat
  bApply : Option Nat
  deriving DecidableEq, Repr

/-- The Rack Brake Controller (R97). `countedA` and `countedB` are the last trusted readings that count: since the
acceptance of the release, the last stage, the entry to APPLY_FAULT or the start of the test step. -/
structure BrakeUnit where
  state : BrakeState
  setpointA : Nat
  setpointB : Nat
  word : BrakeWord
  rewriteWaiting : Bool
  releaseTimer : Option Time
  plan : StagePlan
  applyWindow : Option Time
  lossA : Option Time
  lossB : Option Time
  countedA : Option Int
  countedB : Option Int
  serviceDemand : Nat
  testClaim : Nat
  serviceOutput : Nat
  weakTimer : Option Time
  weakFlag : Bool
  test : Option BrakeTest
  deriving DecidableEq, Repr

/-! ### Entrance Controller (chapter 7) -/

/-- The entrance states (R121), in the order of R120. -/
inductive EntranceState where
  | closedLocked
  | unlocking
  | opening
  | opened
  | closing
  | locking
  | obstructed
  | ajar
  | isolated
  deriving DecidableEq, Repr

/-- One entrance record (R120), with its three sensor inputs. -/
structure EntranceRec where
  state : EntranceState
  motionTimer : Option Time
  settle : Option Time
  held : Bool
  heldTime : Time
  attempts : Nat
  autoClose : Bool
  rewriteWaiting : Bool
  closedLocked : Bool
  openEnd : Bool
  obstruction : Bool
  deriving DecidableEq, Repr

/-- The Entrance Controller (R120). -/
structure EntranceUnit where
  recs : Four EntranceRec
  releaseLeft : Bool
  releaseRight : Bool
  deriving DecidableEq, Repr

/-! ### Valley Link Unit (chapter 8) -/

/-- The link transfer states (R138), in the order of R137. -/
inductive LinkState where
  | stopped
  | idle
  | receiving
  | sending
  | resetWait
  deriving DecidableEq, Repr

/-- A staging buffer (R142): taken by a reception, or holding a frame whose ring copy is not yet written. -/
inductive StageBuffer where
  | empty
  | receiving
  | copying (units : List Half) (accepted : Time)
  deriving DecidableEq, Repr

/-- The result a receipt names (R151). -/
inductive ReceiptResult where
  | done
  | listFull
  | notHeld
  deriving DecidableEq, Repr

/-- A receipt (R151). -/
structure Receipt where
  kind : InboundKind
  sequence : Nat
  result : ReceiptResult
  deriving DecidableEq, Repr

/-- The last accepted valley sequence with its kind and result (R144). -/
structure LastAccepted where
  sequence : Nat
  kind : InboundKind
  result : Option ReceiptResult
  deriving DecidableEq, Repr

/-- Where a frame in sending came from (R153, R155): `detached` is an OUTBOUND frame after CCR, whose consumer
advance is not written. -/
inductive SendSource where
  | receipt
  | alarm
  | outbound
  | detached
  deriving DecidableEq, Repr

/-- The frame in sending (R137, R139); `begun` once its first unit has gone on the link (R155). -/
structure Sending where
  units : List Half
  source : SendSource
  begun : Bool
  deriving DecidableEq, Repr

/-- The radio states (R152). -/
inductive RadioState where
  | notHeard
  | up
  | shadowed
  | lost
  deriving DecidableEq, Repr

/-- The shadow timer (R152, R154): a deadline with its segment, or frozen in STABLED with its remaining time. -/
inductive ShadowTimer where
  | inactive
  | active (deadline : Time) (seg : Nat)
  | frozen (remaining : Nat) (seg : Nat)
  deriving DecidableEq, Repr

/-- The authority record while it is VALID or EXPIRED (R145, R146). -/
structure Authority where
  expired : Bool
  way : Way
  limit : Nat
  choice : LoopSel
  deadline : Time
  expiry : Option Nat
  deriving DecidableEq, Repr

/-- The scope of a restriction (R147). -/
inductive Scope where
  | up
  | down
  | both
  deriving DecidableEq, Repr

/-- A restriction (R147). -/
structure Restriction where
  ident : Nat
  first : Nat
  last : Nat
  limit : Nat
  scope : Scope
  deriving DecidableEq, Repr

/-- The stop mark (R148). -/
inductive StopMark where
  | clear
  | unreleased
  | released
  deriving DecidableEq, Repr

/-- The entrance permit record while it is VALID (R149). -/
structure Permit where
  side : Side
  first : Nat
  last : Nat
  deadline : Time
  deriving DecidableEq, Repr

/-- The OUTBOUND slot read in progress (R153): the slot and the words returned, first first. -/
structure OutboundRead where
  slot : Nat
  words : List Word
  deriving DecidableEq, Repr

/-- The transmit buffer (R153): the units of a frame and its slot. -/
structure TxFrame where
  slot : Nat
  units : List Half
  deriving DecidableEq, Repr

/-- The Valley Link Unit (R137). The two staging buffers are `stage0` and `stage1`; `judgedFront` is the front
segment the shadow judgement was last made for (R152); `lselm` the line as the VLU acts on it, and `lselmTime` the time
of its last assertion (R141); `overrunning` that what LSELM selects is an overrun being followed (R142); `resetTime` the
time of the last link transfer reset (R140). -/
structure ValleyUnit where
  link : LinkState
  lselm : Bool
  lselmTime : Time
  overrunning : Bool
  suspended : Bool
  fault : Bool
  conflicts : Nat
  resetTime : Time
  stage0 : StageBuffer
  stage1 : StageBuffer
  receipts : List Receipt
  alarmPending : Bool
  transmit : Option TxFrame
  reading : Option OutboundRead
  sending : Option Sending
  radio : RadioState
  linkLoss : Option Time
  shadow : ShadowTimer
  inShadow : Bool
  judgedFront : Option Nat
  lastAccepted : Option LastAccepted
  outSequence : Nat
  authority : Option Authority
  restrictions : List Restriction
  overfull : Bool
  stop : StopMark
  permit : Option Permit
  inboundProducer : Nat
  outboundConsumer : Nat
  deriving DecidableEq, Repr

/-! ### The part -/

/-- Working memory: the cells that differ from what an unlisted address reads as, at rising addresses. -/
abbrev Memory := List Host.Cell

/-- The state of the part, with the memory it stands before, the queue of waiting commands and the counter of the
free values drawn (log 6). -/
structure State where
  run : RunUnit
  path : PathUnit
  rfc : RfcUnit
  prof : ProfileUnit
  tooth : PerChannel ToothChannel
  scan : ScanUnit
  motion : MotionUnit
  sup : SupUnit
  rbc : BrakeUnit
  ent : EntranceUnit
  vlu : ValleyUnit
  mem : Memory
  freeIndex : Nat
  pending : List Instr
  deriving DecidableEq, Repr

/-! ### Power-on -/

/-- A slot record at power-on (R164). -/
def SlotRec.reset : SlotRec :=
  ⟨.idle, 0, 0, none, none, none, none, none, false⟩

/-- Run Control at power-on (R35, R36). -/
def RunUnit.reset : RunUnit := ⟨.loading, 0, none⟩

/-- The Path Unit at power-on (R164). -/
def PathUnit.reset : PathUnit where
  map := none
  queue := []
  entering := []
  waiters := []
  handed := []
  passedOver := 0
  allocated := 0
  published := 0
  noticeConsumer := 0
  inboundConsumer := 0
  outboundProducer := 0
  inboundWritten := 0
  outboundWritten := 0
  dropped := 0
  slots := ⟨SlotRec.reset, SlotRec.reset, SlotRec.reset, SlotRec.reset⟩
  nextGo := 0
  held := none
  access := none
  portBusy := false
  busData := 0

/-- The Route Flash Controller at power-on (R23); the configuration read has begun at once (R36, log 5). -/
def RfcUnit.reset : RfcUnit where
  inFlight := some (.configRead 0)
  fills := []
  uncached := []
  items := []
  current := none
  lockout := .clear
  activeFill := false
  lineBuffer := List.replicate 32 0
  pageBuffer := List.replicate 256 0
  statusByte := 0
  store := List.replicate 512 0
  storeValid := false

/-- A line of the cache at power-on, in way `w` (R5). -/
def CacheLine.reset (w : Nat) : CacheLine := ⟨false, false, 0, w, List.replicate 32 0⟩

/-- The empty profile cache (R5): every line invalid and unpinned, the ages 0 to 3 in way order. -/
def emptyCache : List (List CacheLine) :=
  List.replicate 16 [CacheLine.reset 0, CacheLine.reset 1, CacheLine.reset 2, CacheLine.reset 3]

/-- The Profile Unit at power-on (R5, R9, R17, R19). -/
def ProfileUnit.reset : ProfileUnit where
  cache := emptyCache
  window := []
  refSeg := none
  front := none
  loopTaken := .none
  endKind := .none
  rearUnresolved := false
  walk := none
  search := none
  rebuild := none
  reads := []

/-- A tooth channel at power-on (R41). -/
def ToothChannel.reset : ToothChannel := ⟨false, false, false, false, 0, none, false, false⟩

/-- The last values at power-on (R48). -/
def LastValues.reset : LastValues :=
  ⟨⟨0, none⟩, ⟨0, none⟩, ⟨0, none⟩, ⟨0, none⟩, ⟨0, none⟩, ⟨0, none⟩⟩

/-- The Analog Scan Unit at power-on (R48). -/
def ScanUnit.reset : ScanUnit where
  running := false
  list := []
  started := 0
  checkDue := 0
  meas := .notChecked
  recovery := false
  cr1Passed := false
  last := LastValues.reset
  phWindow := .normal
  vsWindow := .normal
  spots := []
  conv := none

/-- The Motion Unit at power-on (R58). -/
def MotionUnit.reset : MotionUnit where
  position := 0
  posState := .unknown
  track := none
  source := .wheel
  accumulator := 0
  speeds := ⟨0, 0, 0⟩
  speed := 0
  saturated := ⟨false, false, false⟩
  standstill := false
  standstillTimer := 0
  movement := .none
  difference := 0
  rackEntryPending := false
  rollback := 0
  pendingCount := none
  correcting := none
  inclineTimer := none

/-- The Speed Supervisor at power-on (R77). -/
def SupUnit.reset : SupUnit where
  state := .normal
  limit := 0
  targets := []
  firstCause := none
  causes := []
  tripTime := 0
  acknowledged := false
  direction := .none
  traction := 0
  ceiling := 0
  output := 0
  rewriteWaiting := false
  claim := 0
  completing := none

/-- The Rack Brake Controller at power-on (R97). -/
def BrakeUnit.reset : BrakeUnit where
  state := .applied
  setpointA := 0
  setpointB := 0
  word := .apply
  rewriteWaiting := false
  releaseTimer := none
  plan := ⟨1, 0, 0, 0⟩
  applyWindow := none
  lossA := none
  lossB := none
  countedA := none
  countedB := none
  serviceDemand := 0
  testClaim := 0
  serviceOutput := 0
  weakTimer := none
  weakFlag := false
  test := none

/-- An entrance record at power-on with its inputs as they read (R120): the state follows the closed-locked input. -/
def EntranceRec.reset (closedLocked openEnd obstruction : Bool) : EntranceRec where
  state := if closedLocked then .closedLocked else .ajar
  motionTimer := none
  settle := none
  held := false
  heldTime := 0
  attempts := 0
  autoClose := false
  rewriteWaiting := false
  closedLocked := closedLocked
  openEnd := openEnd
  obstruction := obstruction

/-- The Entrance Controller at power-on, every leaf closed and locked (R120; the inputs are pins, log 3). -/
def EntranceUnit.reset : EntranceUnit where
  recs :=
    ⟨EntranceRec.reset true false false, EntranceRec.reset true false false,
      EntranceRec.reset true false false, EntranceRec.reset true false false⟩
  releaseLeft := false
  releaseRight := false

/-- The Valley Link Unit at power-on (R137). -/
def ValleyUnit.reset : ValleyUnit where
  link := .stopped
  lselm := false
  lselmTime := 0
  overrunning := false
  suspended := false
  fault := false
  conflicts := 0
  resetTime := 0
  stage0 := .empty
  stage1 := .empty
  receipts := []
  alarmPending := false
  transmit := none
  reading := none
  sending := none
  radio := .notHeard
  linkLoss := none
  shadow := .inactive
  inShadow := false
  judgedFront := none
  lastAccepted := none
  outSequence := 0
  authority := none
  restrictions := []
  overfull := false
  stop := .clear
  permit := none
  inboundProducer := 0
  outboundConsumer := 0

/-- The part right after the release of the power-on reset input (R40): every unit in its power-on state, the pins
and memory at the values of log 3 and log 4, no command waiting. -/
def State.reset : State where
  run := RunUnit.reset
  path := PathUnit.reset
  rfc := RfcUnit.reset
  prof := ProfileUnit.reset
  tooth := ⟨ToothChannel.reset, ToothChannel.reset, ToothChannel.reset⟩
  scan := ScanUnit.reset
  motion := MotionUnit.reset
  sup := SupUnit.reset
  rbc := BrakeUnit.reset
  ent := EntranceUnit.reset
  vlu := ValleyUnit.reset
  mem := []
  freeIndex := 0
  pending := []

end Sys2Proof.Machine
end

