-- ==== Sys2Proof/Machine/Operands.lean ====
section
/-! DEFINITION. How the part reads its operands: bytes and bit fields (11, R180), the segment record (11.1), the
configuration block (11.2) and its check (R37), the class of an address (R165), the packed decimal of the valley
frames (11.6). -/

namespace Sys2Proof.Machine

/-! ### Bytes and fields -/

/-- Byte `i` of a record, as a number; a byte that is not there reads 0. -/
def byteAt (b : List Byte) (i : Nat) : Nat := (b.getD i 0).toNat

/-- The halfword at byte `i`, little-endian (11). -/
def u16 (b : List Byte) (i : Nat) : Nat := byteAt b i + 256 * byteAt b (i + 1)

/-- The word at byte `i`, little-endian (11). -/
def u32 (b : List Byte) (i : Nat) : Nat := u16 b i + 65536 * u16 b (i + 2)

/-- A field of `bits` bits read in two's complement (R180). -/
def toSigned (bits n : Nat) : Int :=
  if n < 2 ^ (bits - 1) then (n : Int) else (n : Int) - (2 ^ bits : Nat)

/-- The signed halfword at byte `i`. -/
def s16 (b : List Byte) (i : Nat) : Int := toSigned 16 (u16 b i)

/-- The bytes as one little-endian number: bit n is bit (n mod 8) of byte floor(n / 8) (11.1). -/
def leNum : List Byte → Nat
  | [] => 0
  | x :: xs => x.toNat + 256 * leNum xs

/-- The field of `width` bits that begins at bit `lo`. -/
def field (n lo width : Nat) : Nat := (n >>> lo) % 2 ^ width

/-- The sum of the bytes. -/
def byteSum : List Byte → Nat
  | [] => 0
  | x :: xs => x.toNat + byteSum xs

/-- The sum of the little-endian halfwords (R37). -/
def halfSum : List Byte → Nat
  | [] => 0
  | [x] => x.toNat
  | x :: y :: xs => x.toNat + 256 * y.toNat + halfSum xs

/-- The first `n` bytes of what a flash transaction moved: a flash that does not answer reads as all-ones bytes
(R24), so bytes that are missing read FFh (log 8). -/
def takeBytes (n : Nat) (data : List Byte) : List Byte :=
  (data ++ List.replicate n 0xFF).take n

/-! ### Segment records (R1, 11.1) -/

/-- The fields of a segment record as they are coded (11.1). Links and markers are raw. -/
structure Segment where
  number : Nat
  trackCode : Nat
  kindCode : Nat
  tunnel : Bool
  shadow : Bool
  station : Bool
  sideCode : Nat
  start : Nat
  length : Nat
  gradient : Int
  limitUp : Nat
  limitDown : Nat
  nextUp : Nat
  nextDown : Nat
  altUp : Nat
  altDown : Nat
  allowance : Nat
  stopOffset : Nat
  stopLength : Nat
  markerCount : Nat
  marker0 : Nat × Nat
  marker1 : Nat × Nat
  marker2 : Nat × Nat
  deriving DecidableEq, Repr

/-- A marker entry: the code in the first 10 bits, the offset in the next 15 (11.1). -/
def markerField (n lo : Nat) : Nat × Nat := (field n lo 10, field n (lo + 10) 15)

/-- The record that a number of 256 bits codes (11.1). -/
def Segment.ofNum (n : Nat) : Segment where
  number := field n 0 10
  trackCode := field n 10 2
  kindCode := field n 12 2
  tunnel := field n 14 1 == 1
  shadow := field n 15 1 == 1
  station := field n 16 1 == 1
  sideCode := field n 17 2
  start := field n 19 18
  length := field n 37 15
  gradient := toSigned 10 (field n 52 10)
  limitUp := field n 62 10
  limitDown := field n 72 10
  nextUp := field n 82 10
  nextDown := field n 92 10
  altUp := field n 102 10
  altDown := field n 112 10
  allowance := field n 122 10
  stopOffset := field n 132 15
  stopLength := field n 147 8
  markerCount := field n 155 2
  marker0 := markerField n 157
  marker1 := markerField n 182
  marker2 := markerField n 207

/-- The record that 32 bytes code. -/
def Segment.ofBytes (b : List Byte) : Segment := Segment.ofNum (leNum b)

/-- The track of a record (11.1); code 3 fails the FIELD check of R3, so no record in use holds it. -/
def Segment.track (r : Segment) : Track :=
  if r.trackCode = 1 then .loopA else if r.trackCode = 2 then .loopB else .main

/-- The kind of a record (11.1); code 3 fails the FIELD check of R3. -/
def Segment.kind (r : Segment) : Kind :=
  if r.kindCode = 1 then .rackEntry else if r.kindCode = 2 then .rack else .adhesion

/-- A link field: the segment's own number is NONE, or absent (11.1). -/
def Segment.link (r : Segment) (n : Nat) : Option Nat := if n = r.number then none else some n

/-- The next link in a direction (R1, R2). -/
def Segment.next (r : Segment) : Way → Option Nat
  | .up => r.link r.nextUp
  | .down => r.link r.nextDown

/-- The alternate link in a direction (R1, R2). -/
def Segment.alt (r : Segment) : Way → Option Nat
  | .up => r.link r.altUp
  | .down => r.link r.altDown

/-- A split for a direction has both a next and an alternate link there (R2). -/
def Segment.split (r : Segment) (w : Way) : Bool := (r.next w).isSome && (r.alt w).isSome

/-- One past the last position of the segment: start + length. -/
def Segment.stop (r : Segment) : Nat := r.start + r.length

/-- The marker entries that count (11.1). -/
def Segment.markers (r : Segment) : List (Nat × Nat) :=
  [r.marker0, r.marker1, r.marker2].take r.markerCount

/-- The position of the first marker entry with a code, if the record lists it: start plus offset (R1). -/
def Segment.markerPos (r : Segment) (code : Nat) : Option Nat :=
  (r.markers.find? fun m => m.1 == code).map fun m => r.start + m.2

/-- The line speed limit for a direction; with direction NONE the lower of the two (R1, R78). -/
def Segment.limitFor (r : Segment) : Dir → Nat
  | .up => r.limitUp
  | .down => r.limitDown
  | .none => min r.limitUp r.limitDown

/-- A position lies in the segment when start ≤ x < start + length (R1). -/
def Segment.holds (r : Segment) (x : Int) : Bool := decide ((r.start : Int) ≤ x) && decide (x < (r.stop : Int))

/-- The platform side of a record with a station part (11.1). -/
def Segment.side (r : Segment) : Option Side :=
  if r.sideCode = 1 then some .left else if r.sideCode = 2 then some .right
  else if r.sideCode = 3 then some .both else none

/-- The gradient class, by magnitude (00, conventions). -/
def gradientClass (g : Int) : Nat :=
  if g.natAbs < 50 then 0 else if g.natAbs < 150 then 1 else if g.natAbs < 250 then 2
  else if g.natAbs < 350 then 3 else 4

/-- A segment is descending for UP with gradient below 0, for DOWN with gradient above 0 (00, conventions). -/
def descending (g : Int) : Way → Bool
  | .up => decide (g < 0)
  | .down => decide (0 < g)

/-- The reasons a record alone can fail (R3). -/
def markerInRange (r : Segment) (m : Nat × Nat) : Bool :=
  decide (1 ≤ m.1) && decide (m.2 < r.length)

/-- Check FIELD of R3 with the codings of 11.1. -/
def Segment.fieldCheck (r : Segment) : Bool :=
  decide (r.trackCode ≤ 2) && decide (r.kindCode ≤ 2) && decide (r.start ≤ 199999)
    && decide (50 ≤ r.length) && decide (r.length ≤ 20000) && decide (r.stop ≤ 200000)
    && decide (-500 ≤ r.gradient) && decide (r.gradient ≤ 500)
    && decide (r.limitUp ≤ 600) && decide (r.limitDown ≤ 600)
    && r.markers.all (markerInRange r)
    && (if r.sideCode = 0 then !r.station
        else r.station && decide (1 ≤ r.stopLength) && decide (r.stopOffset + r.stopLength ≤ r.length))
    && (if r.allowance = 0 then !r.shadow
        else r.shadow && decide (5 ≤ r.allowance) && decide (r.allowance ≤ 600))
    && ((r.alt .up).isNone || (r.trackCode == 0 && (r.next .up).isSome))
    && ((r.alt .down).isNone || (r.trackCode == 0 && (r.next .down).isSome))

/-- Check LINK_RANGE of R3: every link that is not NONE names a segment below the count. -/
def Segment.linksInRange (r : Segment) (count : Nat) : Bool :=
  [r.next .up, r.next .down, r.alt .up, r.alt .down].all fun l =>
    match l with
    | none => true
    | some n => decide (n < count)

/-- The checks of R3 in their order: the first that fails gives the reason. -/
def recordReason (b : List Byte) (n count : Nat) : Option Reason :=
  if byteSum b % 256 ≠ 0 then some .check
  else if (Segment.ofBytes b).number ≠ n then some .number
  else if !(Segment.ofBytes b).fieldCheck then some .field
  else if !(Segment.ofBytes b).linksInRange count then some .linkRange
  else none

/-! ### The configuration block (11.2) -/

namespace Cfg

def checkHalfword (b : List Byte) : Nat := u16 b 0x002
def carNumber (b : List Byte) : Nat := byteAt b 0x03C
def reopenAttempts (b : List Byte) : Nat := byteAt b 0x03D
def carLength (b : List Byte) : Nat := u16 b 0x03E
def readerOffset (b : List Byte) : Nat := u16 b 0x040
def wheelPulses (b : List Byte) : Nat := u16 b 0x042
def warnDistance (b : List Byte) : Nat := u16 b 0x044
def interveneMargin (b : List Byte) : Nat := byteAt b 0x046
def tripMargin (b : List Byte) : Nat := byteAt b 0x047
def overrunAllowance (b : List Byte) : Nat := u16 b 0x048
def lostLinkCeiling (b : List Byte) : Nat := u16 b 0x04A
def unknownPositionCeiling (b : List Byte) : Nat := u16 b 0x04C
def doubtfulCeiling (b : List Byte) : Nat := u16 b 0x04E
def unknownSegmentCeiling (b : List Byte) : Nat := u16 b 0x050
def warnTraction (b : List Byte) : Nat := u16 b 0x052
def buildUpTime (b : List Byte) : Nat := u16 b 0x054
def interventionLevel (b : List Byte) : Nat := byteAt b 0x056
def scanPeriod (b : List Byte) : Nat := byteAt b 0x057

/-- Entry `i` of the deceleration table: 2k ascending, 2k + 1 descending for class k. -/
def deceleration (b : List Byte) (i : Nat) : Nat := u16 b (0x058 + 2 * i)

/-- The smallest deceleration of the table (R10, R82). -/
def smallestDeceleration (b : List Byte) : Nat :=
  ((List.range 9).map fun i => deceleration b (i + 1)).foldl min (deceleration b 0)

/-- Stage count of entry `i` of the stage table: 2k UP, 2k + 1 DOWN for class k. -/
def stageCount (b : List Byte) (i : Nat) : Nat := byteAt b (0x06C + 4 * i)

/-- Interval of entry `i` of the stage table. -/
def stageInterval (b : List Byte) (i : Nat) : Nat := u16 b (0x06C + 4 * i + 2)

def releaseThreshold (b : List Byte) : Nat := u16 b 0x094
def appliedThreshold (b : List Byte) : Nat := u16 b 0x096
def holdMargin (b : List Byte) : Nat := u16 b 0x098
def unlockTime (b : List Byte) : Nat := u16 b 0x09A
def openingTime (b : List Byte) : Nat := u16 b 0x09C
def closingTime (b : List Byte) : Nat := u16 b 0x09E
def lockTime (b : List Byte) : Nat := u16 b 0x0A0
def heldTime (b : List Byte) : Nat := u16 b 0x0A2
def linkLossTime (b : List Byte) : Nat := byteAt b 0x0A4
def inclineTolerance (b : List Byte) : Nat := byteAt b 0x0A5
def inclinePersistence (b : List Byte) : Nat := byteAt b 0x0A6
def markerTolerance (b : List Byte) : Nat := byteAt b 0x0A7
def expiryAllowance (b : List Byte) : Nat := u16 b 0x0A8

/-- Polarity of a phase, 0 to 5 in the order of 11.2: set is INVERTED. -/
def inverted (b : List Byte) (i : Nat) : Bool := field (u16 b 0x0AA) i 1 == 1

/-- Hysteresis enable of a phase, in the same order. -/
def hysteresis (b : List Byte) (i : Nat) : Bool := field (u16 b 0x0AA) (8 + i) 1 == 1

/-- Offset and gain of field channel `i`, in the order PA, PB, PS, PH, INC, VS. -/
def scaleOffset (b : List Byte) (i : Nat) : Int := s16 b (0x0AC + 4 * i)
def scaleGain (b : List Byte) (i : Nat) : Int := s16 b (0x0AC + 4 * i + 2)

def phLow (b : List Byte) : Int := s16 b 0x0C4
def phHigh (b : List Byte) : Int := s16 b 0x0C6
def phHysteresis (b : List Byte) : Int := s16 b 0x0C8
def vsLow (b : List Byte) : Int := s16 b 0x0CA
def vsHigh (b : List Byte) : Int := s16 b 0x0CC
def vsHysteresis (b : List Byte) : Int := s16 b 0x0CE
def readCommand (b : List Byte) : Nat := byteAt b 0x0D0
def programCommand (b : List Byte) : Nat := byteAt b 0x0D1
def eraseCommand (b : List Byte) : Nat := byteAt b 0x0D2
def enableCommand (b : List Byte) : Nat := byteAt b 0x0D3
def statusCommand (b : List Byte) : Nat := byteAt b 0x0D4
def dummyBytes (b : List Byte) : Nat := byteAt b 0x0D5
def busyBit (b : List Byte) : Nat := byteAt b 0x0D6
def linkDivider (b : List Byte) : Nat := byteAt b 0x0D7
def profileBase (b : List Byte) : Nat := u32 b 0x0D8
def segmentCount (b : List Byte) : Nat := u16 b 0x0DC

/-- The loss level of R98: the release threshold less the hold margin. -/
def lossLevel (b : List Byte) : Int := (releaseThreshold b : Int) - holdMargin b

/-- Base of window map entry `i` (11.2). -/
def mapBase (b : List Byte) (i : Nat) : Nat := u32 b (0x004 + 8 * i) % 2 ^ 24

/-- Function number of window map entry `i`. -/
def mapFunction (b : List Byte) (i : Nat) : Nat := byteAt b (0x004 + 8 * i + 3)

/-- Length of window map entry `i`. -/
def mapLength (b : List Byte) (i : Nat) : Nat := u32 b (0x004 + 8 * i + 4)

/-- The scaled value of a raw code of field channel `i`: the offset plus code × gain / 4096, rounded toward minus
infinity (R49). -/
def scaled (b : List Byte) (i : Nat) (code : Nat) : Int := scaleOffset b i + (code : Int) * scaleGain b i / 4096

end Cfg

/-- The fixed length of the window of function `f` (R37, 11.2): 1 DEMAND to 7 IMAGE. -/
def windowLength (f : Nat) : Nat :=
  if f = 1 then 64 else if f = 2 then 64 else if f = 3 then 256
  else if f = 4 then 1088 else if f = 5 then 1088 else if f = 6 then 1088
  else if f = 7 then 128 else 0

/-- A value in a closed range. -/
def inRange (lo hi n : Nat) : Bool := decide (lo ≤ n) && decide (n ≤ hi)

/-- Check 3 of R37: every field in its range and the related fields in agreement. -/
def configFields (b : List Byte) : Bool :=
  inRange 1 254 (Cfg.carNumber b) && inRange 80 250 (Cfg.carLength b)
    && decide (Cfg.readerOffset b ≤ Cfg.carLength b) && inRange 10 2000 (Cfg.wheelPulses b)
    && inRange 50 1000 (Cfg.warnDistance b) && inRange 5 50 (Cfg.interveneMargin b)
    && inRange 10 80 (Cfg.tripMargin b) && decide (Cfg.interveneMargin b < Cfg.tripMargin b)
    && decide (Cfg.overrunAllowance b ≤ 200) && decide (Cfg.lostLinkCeiling b ≤ 200)
    && decide (Cfg.unknownPositionCeiling b ≤ 200) && decide (Cfg.doubtfulCeiling b ≤ 200)
    && decide (Cfg.unknownSegmentCeiling b ≤ 200) && decide (Cfg.warnTraction b ≤ 1000)
    && (List.range 10).all (fun i => inRange 100 3000 (Cfg.deceleration b i))
    && inRange 200 4000 (Cfg.buildUpTime b)
    && (List.range 10).all (fun i => inRange 1 4 (Cfg.stageCount b i) && inRange 100 2000 (Cfg.stageInterval b i))
    && decide (Cfg.appliedThreshold b < Cfg.releaseThreshold b)
    && decide (Cfg.holdMargin b < Cfg.releaseThreshold b)
    && decide (Cfg.interventionLevel b ≤ 100)
    && inRange 100 20000 (Cfg.unlockTime b) && inRange 100 20000 (Cfg.openingTime b)
    && inRange 100 20000 (Cfg.closingTime b) && inRange 100 20000 (Cfg.lockTime b)
    && inRange 1 300 (Cfg.heldTime b) && decide (Cfg.reopenAttempts b ≤ 9)
    && inRange 2 30 (Cfg.linkLossTime b) && decide (Cfg.expiryAllowance b ≤ 1000)
    && inRange 5 100 (Cfg.markerTolerance b) && inRange 10 100 (Cfg.inclineTolerance b)
    && inRange 1 60 (Cfg.inclinePersistence b)
    && (List.range 6).all (fun i => Cfg.scaleGain b i != 0)
    && decide (Cfg.phLow b + Cfg.phHysteresis b ≤ Cfg.phHigh b - Cfg.phHysteresis b)
    && decide (Cfg.vsLow b + Cfg.vsHysteresis b ≤ Cfg.vsHigh b - Cfg.vsHysteresis b)
    && inRange 5 50 (Cfg.scanPeriod b)
    && decide (Cfg.dummyBytes b ≤ 2) && decide (Cfg.busyBit b ≤ 7) && inRange 2 64 (Cfg.linkDivider b)
    && decide (Cfg.profileBase b % 32 = 0) && decide (512 ≤ Cfg.profileBase b)
    && inRange 1 1024 (Cfg.segmentCount b)
    && decide (Cfg.profileBase b + 32 * Cfg.segmentCount b ≤ 4194304)

/-- The index of the one window map entry of function `f`, if there is exactly one. -/
def mapEntryOf (b : List Byte) (f : Nat) : Option Nat :=
  match (List.range 7).filter fun i => Cfg.mapFunction b i == f with
  | [i] => some i
  | _ => none

/-- The window map of the block, when every function has exactly one entry. -/
def windowMapOf (b : List Byte) : Option WindowMap :=
  match mapEntryOf b 1, mapEntryOf b 2, mapEntryOf b 3, mapEntryOf b 4, mapEntryOf b 5, mapEntryOf b 6, mapEntryOf b 7 with
  | some d, some e, some s, some n, some i, some o, some g =>
    some ⟨Cfg.mapBase b d, Cfg.mapBase b e, Cfg.mapBase b s, Cfg.mapBase b n, Cfg.mapBase b i, Cfg.mapBase b o, Cfg.mapBase b g⟩
  | _, _, _, _, _, _, _ => none

/-- The windows of a map as spans of base and length, in the order of their functions. -/
def WindowMap.spans (m : WindowMap) : List (Nat × Nat) :=
  [(m.demand, 64), (m.entrance, 64), (m.service, 256), (m.notice, 1088), (m.inbound, 1088), (m.outbound, 1088), (m.image, 128)]

/-- Two spans share no byte. -/
def apart (a b : Nat × Nat) : Bool := decide (a.1 + a.2 ≤ b.1) || decide (b.1 + b.2 ≤ a.1)

/-- No two of the spans share a byte. -/
def allApart : List (Nat × Nat) → Bool
  | [] => true
  | x :: xs => xs.all (apart x) && allApart xs

/-- Check 4 of R37: the window map is valid. -/
def mapValid (b : List Byte) : Bool :=
  match windowMapOf b with
  | none => false
  | some m =>
    (List.range 7).all (fun i => Cfg.mapLength b i == windowLength (Cfg.mapFunction b i))
      && m.spans.all (fun w => w.1 % 64 == 0 && decide (w.1 + w.2 ≤ 16777216))
      && allApart m.spans

/-- The check of R37: halfword sum, format tag 5752h, fields, window map. -/
def configPasses (b : List Byte) : Bool :=
  halfSum b % 65536 == 0 && u16 b 0 == 0x5752 && configFields b && mapValid b

/-! ### The class of an address (R165) -/

/-- The classes of R165, with what each class names. -/
inductive WordClass where
  | plain
  | guarded (w : Guarded)
  | unused
  | control (slot : Slot)
  | slotWord (slot : Slot)
  | partWritten
  | noticeConsumer
  | inboundConsumer
  | outboundProducer
  | ringSlot (slot : Nat)
  | image (word : Nat)
  deriving DecidableEq, Repr

/-- A byte address lies in the window of a base and a length. -/
def inWindow (base len a : Nat) : Bool := decide (base ≤ a) && decide (a < base + len)

/-- The number of a slot or an entrance, from 0 to 3. -/
def fin4 (n : Nat) : Fin 4 := Fin.ofNat 4 n

/-- The class of a byte address under a map (R165). -/
def classify (m : WindowMap) (addr : Addr) : WordClass :=
  let a := addr.toNat
  if inWindow m.demand 64 a then
    let w := (a - m.demand) / 4
    if w = 0 then .guarded .direction
    else if w = 1 then .guarded .traction
    else if w = 2 then .guarded .rackBrake
    else if w = 3 then .guarded .serviceBrake
    else .unused
  else if inWindow m.entrance 64 a then
    let w := (a - m.entrance) / 4
    if w < 4 then .guarded (.entrance (fin4 w)) else .unused
  else if inWindow m.service 256 a then
    let w := (a - m.service) / 4
    if w % 16 = 0 then .control (fin4 (w / 16)) else .slotWord (fin4 (w / 16))
  else if inWindow m.notice 1088 a then
    let w := (a - m.notice) / 4
    if w = 0 then .partWritten else if w = 1 then .noticeConsumer else if w < 16 then .unused else .partWritten
  else if inWindow m.inbound 1088 a then
    let w := (a - m.inbound) / 4
    if w = 0 then .partWritten else if w = 1 then .inboundConsumer else if w < 16 then .unused else .partWritten
  else if inWindow m.outbound 1088 a then
    let w := (a - m.outbound) / 4
    if w = 0 then .outboundProducer else if w = 1 then .partWritten else if w < 16 then .unused
    else .ringSlot (w / 16 - 1)
  else if inWindow m.image 128 a then .image ((a - m.image) / 4)
  else .plain

/-- The word an address lies in. -/
def wordBase (addr : Addr) : Nat := addr.toNat / 4 * 4

/-- The address of a byte of memory, from a number (24 address lines). -/
def addrOf (n : Nat) : Addr := BitVec.ofNat 24 n

/-- Every lane of a word. -/
def allLanes : Lanes := 0xF

/-- The address of a guarded word (R165). -/
def guardedAddr (m : WindowMap) : Guarded → Addr
  | .direction => addrOf m.demand
  | .traction => addrOf (m.demand + 4)
  | .rackBrake => addrOf (m.demand + 8)
  | .serviceBrake => addrOf (m.demand + 12)
  | .entrance e => addrOf (m.entrance + 4 * e.val)

/-- The address of word `w` of a service slot (11.3). -/
def slotAddr (m : WindowMap) (slot : Slot) (w : Nat) : Addr := addrOf (m.service + 64 * slot.val + 4 * w)

/-- The buffer rules of R177. -/
def bufferPasses (m : WindowMap) (addr len : Nat) : Bool :=
  decide (addr % 4 = 0) && decide (1 ≤ len) && decide (addr + len ≤ 16777216)
    && m.spans.all (apart (addr, len))

/-- A length rounded up to a whole word (R28, R29). -/
def roundWord (n : Nat) : Nat := (n + 3) / 4 * 4

/-! ### Packed decimal (11.6) -/

/-- Every digit of a unit is 0 to 9 (R143). -/
def bcdValid (u : Half) : Bool :=
  decide (u.toNat % 16 ≤ 9) && decide (u.toNat / 16 % 16 ≤ 9)
    && decide (u.toNat / 256 % 16 ≤ 9) && decide (u.toNat / 4096 ≤ 9)

/-- The number four packed digits give, most significant digit first. -/
def bcd (u : Half) : Nat :=
  u.toNat / 4096 * 1000 + u.toNat / 256 % 16 * 100 + u.toNat / 16 % 16 * 10 + u.toNat % 16

/-- The number two units give: eight digits. -/
def bcd2 (hi lo : Half) : Nat := bcd hi * 10000 + bcd lo

/-- Four digits of a number, packed. -/
def toBcd (n : Nat) : Half :=
  BitVec.ofNat 16 (n / 1000 % 10 * 4096 + n / 100 % 10 * 256 + n / 10 % 10 * 16 + n % 10)

/-- A position in two units (11.6). -/
def toBcd2 (n : Nat) : List Half := [toBcd (n / 10000), toBcd n]

/-- The sum of the units (R143). -/
def unitSum : List Half → Nat
  | [] => 0
  | u :: us => u.toNat + unitSum us

end Sys2Proof.Machine
end

