-- ==== Sys2Proof/Machine/Flags.lean ====
section
/-! DEFINITION. The codes of the enumerations (11.3 to 11.6, R180) and the flags and lines that are functions of
the state: what units report to each other and what the pins show. -/

namespace Sys2Proof.Machine

/-! ### Codes -/

/-- The position of a reason in the list of 11.3, from 01h. -/
def Reason.code : Reason → Nat
  | .form => 1 | .partOwned => 2 | .unused => 3 | .blocked => 4 | .range => 5 | .moving => 6 | .stabled => 7
  | .notSecured => 8 | .notStandstill => 9 | .brakeNotApplied => 10 | .notApplied => 11 | .tripped => 12
  | .flashBusy => 13 | .entrance => 14 | .measurement => 15 | .supply => 16 | .runState => 17 | .busy => 18
  | .fault => 19 | .heldRequest => 20 | .brake => 21
  | .noRelease => 22 | .isolated => 23 | .notClosed => 24 | .notIsolated => 25
  | .check => 26 | .number => 27 | .field => 28 | .linkRange => 29 | .continuity => 30 | .wrongTrack => 31
  | .stepLimit => 32 | .lineEnd => 33 | .recordBad => 34 | .congestion => 35
  | .movement => 36 | .trip => 37 | .host => 38 | .releaseTimeout => 39 | .pressureLoss => 40
  | .distance => 41 | .track => 42 | .linkLoss => 43 | .shadowExhausted => 44 | .linkFault => 45
  | .rejectedCheck => 46 | .rejectedForm => 47 | .malformed => 48 | .lockLoss => 49 | .overspeedReason => 50

/-- The result codes of 11.3. -/
def ResultCode.code : ResultCode → Nat
  | .ok => 1
  | .busy => 2
  | .refused => 3
  | .badOperand => 4
  | .badBuffer => 5
  | .timeout => 6
  | .aborted => 7
  | .failed => 8

/-- Trip causes are numbered 1 to 14 in the order of R87 (11.3). -/
def Cause.code : Cause → Nat
  | .overspeed => 1
  | .authorityOverrun => 2
  | .expiryOverrun => 3
  | .valleyStop => 4
  | .pinionDisagree => 5
  | .rollback => 6
  | .entranceOpenMoving => 7
  | .entranceUnlocked => 8
  | .brakePressureLoss => 9
  | .brakeApplyFault => 10
  | .measurementFault => 11
  | .supplyLow => 12
  | .rollaway => 13
  | .testMovement => 14

/-- The causes in the order of the table of R87. -/
def Cause.all : List Cause :=
  [.overspeed, .authorityOverrun, .expiryOverrun, .valleyStop, .pinionDisagree, .rollback, .entranceOpenMoving,
    .entranceUnlocked, .brakePressureLoss, .brakeApplyFault, .measurementFault, .supplyLow, .rollaway, .testMovement]

/-- A set of causes as a word: bit c - 1 for each cause c (11.3). -/
def causeSet (cs : List Cause) : Nat :=
  (Cause.all.filter fun c => cs.contains c).foldl (fun n c => n + 2 ^ (c.code - 1)) 0

def Severity.code : Severity → Nat
  | .info => 0
  | .warn => 1
  | .alarm => 2

def Dir.code : Dir → Nat
  | .none => 0
  | .up => 1
  | .down => 2

def Way.code : Way → Nat
  | .up => 1
  | .down => 2

/-- The direction word a sense of movement equals. -/
def Way.dir : Way → Dir
  | .up => .up
  | .down => .down

/-- The other sense. -/
def Way.flip : Way → Way
  | .up => .down
  | .down => .up

/-- The track as image word 7 codes it: 0 NONE, 1 MAIN, 2 LOOP_A, 3 LOOP_B (log 16). -/
def trackCode : Option Track → Nat
  | none => 0
  | some .main => 1
  | some .loopA => 2
  | some .loopB => 3

def LoopSel.code : LoopSel → Nat
  | .none => 0
  | .loopA => 1
  | .loopB => 2

def EndKind.code : EndKind → Nat
  | .none => 0
  | .distance => 1
  | .count => 2
  | .lineEnd => 3
  | .undecided => 4
  | .pending => 5
  | .unavailable => 6
  | .bad => 7

def PosState.code : PosState → Nat
  | .unknown => 0
  | .provisional => 1
  | .confirmed => 2
  | .doubtful => 3

def SupState.code : SupState → Nat
  | .normal => 0
  | .warn => 1
  | .service => 2
  | .trip => 3

/-- The run states as the image codes them (11.5 gives RUN and STABLED; the image is not answered in the others). -/
def RunState.code : RunState → Nat
  | .loading => 0
  | .configFault => 1
  | .run => 2
  | .stabled => 3

def BrakeState.code : BrakeState → Nat
  | .applied => 0
  | .releasing => 1
  | .released => 2
  | .applying => 3
  | .applyFault => 4
  | .testing => 5

def EntranceState.code : EntranceState → Nat
  | .closedLocked => 0
  | .unlocking => 1
  | .opening => 2
  | .opened => 3
  | .closing => 4
  | .locking => 5
  | .obstructed => 6
  | .ajar => 7
  | .isolated => 8

def LinkState.code : LinkState → Nat
  | .stopped => 0
  | .idle => 1
  | .receiving => 2
  | .sending => 3
  | .resetWait => 4

def MeasState.code : MeasState → Nat
  | .notChecked => 0
  | .qualifying => 1
  | .valid => 2
  | .fault => 3

def RadioState.code : RadioState → Nat
  | .notHeard => 0
  | .up => 1
  | .shadowed => 2
  | .lost => 3

def LimitState.code : LimitState → Nat
  | .low => 0
  | .normal => 1
  | .high => 2

def Source.code : Source → Nat
  | .pa => 0
  | .pb => 1
  | .ps => 2
  | .ph => 3
  | .inc => 4
  | .vs => 5
  | .cr1 => 6
  | .cr2 => 7

/-- The source a MEASURE operand names (11.3). -/
def Source.ofCode (n : Nat) : Option Source :=
  if n = 0 then some .pa else if n = 1 then some .pb else if n = 2 then some .ps else if n = 3 then some .ph
  else if n = 4 then some .inc else if n = 5 then some .vs else if n = 6 then some .cr1
  else if n = 7 then some .cr2 else none

/-- The number of a tooth channel in a notice (TOOTH_PHASE_ERROR, SPEED_SATURATED, ROLLAWAY). Chapter 11 gives none, and the
channels stand in no list of a state table (R180); the order of R45's table is the model's choice (log 53). -/
def channelCode : Channel → Nat
  | .pinionA => 0
  | .pinionB => 1
  | .wheel => 2

/-- The phase states in the order of R41, as 0 to 3. -/
def phaseCode (p1 p2 : Bool) : Nat :=
  match p1, p2 with
  | false, false => 0
  | true, false => 1
  | true, true => 2
  | false, true => 3

def TargetKind.code : TargetKind → Nat
  | .segmentLimit => 1
  | .restriction => 2
  | .authorityEnd => 3
  | .expiry => 4
  | .noAuthority => 5
  | .windowEnd => 6

def TestStep.code : TestStep → Nat
  | .aRelease => 1
  | .aHold => 2
  | .aApply => 3
  | .bRelease => 4
  | .bHold => 5
  | .bApply => 6

def ReceiptResult.code : ReceiptResult → Nat
  | .done => 1
  | .listFull => 2
  | .notHeld => 3

def BrakeWord.code : BrakeWord → Nat
  | .apply => 0
  | .release => 1

/-- The RACK_BRAKE word a value codes; any other word is out of range (R99). -/
def BrakeWord.ofWord (w : Word) : Option BrakeWord :=
  if w = 0 then some .apply else if w = 1 then some .release else none

/-- The DIRECTION word a value codes (11.3, R94). -/
def Dir.ofWord (w : Word) : Option Dir :=
  if w = 0 then some .none else if w = 1 then some .up else if w = 2 then some .down else none

/-- The entrance requests (R124). -/
inductive Request where
  | none
  | opening
  | closing
  | isolate
  | restore
  deriving DecidableEq, Repr

def Request.code : Request → Nat
  | .none => 0
  | .opening => 1
  | .closing => 2
  | .isolate => 3
  | .restore => 4

/-- The request a value codes (11.3, R124). -/
def Request.ofWord (w : Word) : Option Request :=
  if w = 0 then some .none else if w = 1 then some .opening else if w = 2 then some .closing
  else if w = 3 then some .isolate else if w = 4 then some .restore else Option.none

/-! ### Containers -/

def PerChannel.get {α : Type} (p : PerChannel α) : Channel → α
  | .pinionA => p.a
  | .pinionB => p.b
  | .wheel => p.w

def PerChannel.set {α : Type} (p : PerChannel α) (c : Channel) (v : α) : PerChannel α :=
  match c with
  | .pinionA => { p with a := v }
  | .pinionB => { p with b := v }
  | .wheel => { p with w := v }

def PerChannel.map {α β : Type} (p : PerChannel α) (f : α → β) : PerChannel β := ⟨f p.a, f p.b, f p.w⟩

def Four.get {α : Type} (f : Four α) (i : Fin 4) : α :=
  if i = 0 then f.x0 else if i = 1 then f.x1 else if i = 2 then f.x2 else f.x3

def Four.set {α : Type} (f : Four α) (i : Fin 4) (v : α) : Four α :=
  if i = 0 then { f with x0 := v } else if i = 1 then { f with x1 := v }
  else if i = 2 then { f with x2 := v } else { f with x3 := v }

def Four.map {α β : Type} (f : Four α) (g : α → β) : Four β := ⟨g f.x0, g f.x1, g f.x2, g f.x3⟩

/-- The values with their numbers, first first. -/
def Four.toList {α : Type} (f : Four α) : List (Fin 4 × α) := [(0, f.x0), (1, f.x1), (2, f.x2), (3, f.x3)]

/-- The last value of a field channel; a check reference has none (R48). -/
def LastValues.get (l : LastValues) : Source → Reading
  | .pa => l.pa
  | .pb => l.pb
  | .ps => l.ps
  | .ph => l.ph
  | .inc => l.inc
  | .vs => l.vs
  | .cr1 => ⟨0, none⟩
  | .cr2 => ⟨0, none⟩

def LastValues.set (l : LastValues) (c : Source) (r : Reading) : LastValues :=
  match c with
  | .pa => { l with pa := r }
  | .pb => { l with pb := r }
  | .ps => { l with ps := r }
  | .ph => { l with ph := r }
  | .inc => { l with inc := r }
  | .vs => { l with vs := r }
  | .cr1 => l
  | .cr2 => l

/-! ### What units report and what the pins show -/

/-- The configuration block as read (R23). -/
def State.cfg (s : State) : List Byte := s.rfc.store

/-- The time base (R35). -/
def State.now (s : State) : Time := s.run.timeBase

/-- The part is in service: RUN or STABLED. -/
def State.inService (s : State) : Bool :=
  match s.run.runState with
  | .run => true
  | .stabled => true
  | .loading => false
  | .configFault => false

/-- An entrance counts as secured while CLOSED_LOCKED or ISOLATED (R121). -/
def EntranceState.secured : EntranceState → Bool
  | .closedLocked => true
  | .isolated => true
  | .unlocking => false
  | .opening => false
  | .opened => false
  | .closing => false
  | .locking => false
  | .obstructed => false
  | .ajar => false

/-- The first entrance that is not secured, in entrance order. -/
def State.firstUnsecured (s : State) : Option Entrance :=
  (s.ent.recs.toList.find? fun r => !r.2.state.secured).map Prod.fst

/-- Every entrance is secured. -/
def State.allSecured (s : State) : Bool := s.firstUnsecured.isNone

/-- The first entrance with its held flag set, in entrance order. -/
def State.firstHeld (s : State) : Option Entrance :=
  (s.ent.recs.toList.find? fun r => r.2.held).map Prod.fst

/-- The measurement-valid flag (R48). -/
def State.measurementValid (s : State) : Bool := decide (s.scan.meas = .valid)

/-- A FLASH_PROGRAM or FLASH_ERASE is in flight in the sense of R30: from the secured check to its completion. -/
def State.writeInFlight (s : State) : Bool :=
  match s.rfc.current with
  | some (.flash c) =>
    match c.op.kind with
    | .read => false
    | .program => true
    | .erase => true
  | some (.serviceFill _) => false
  | none => false

/-- A flash service operation is current or waiting in the list (R27): SERVICE fills do not count. -/
def State.flashPending (s : State) : Bool :=
  !s.rfc.items.isEmpty ||
    match s.rfc.current with
    | some (.flash _) => true
    | some (.serviceFill _) => false
    | none => false

/-- The TRIP line (R178, R39): asserted in TRIP, deasserted in LOADING, asserted in CONFIG_FAULT. -/
def State.tripLine (s : State) : Bool :=
  match s.run.runState with
  | .loading => false
  | .configFault => true
  | .run => decide (s.sup.state = .trip)
  | .stabled => decide (s.sup.state = .trip)

/-- The ATTN line (R173, R39): asserted while the published producer differs from the consumer copy. -/
def State.attnLine (s : State) : Bool :=
  match s.run.runState with
  | .loading => false
  | .configFault => true
  | .run => decide (s.path.published ≠ s.path.noticeConsumer)
  | .stabled => decide (s.path.published ≠ s.path.noticeConsumer)

/-- A staging buffer is free. -/
def StageBuffer.isFree : StageBuffer → Bool
  | .empty => true
  | .receiving => false
  | .copying _ _ => false

/-- The LRDY line (R142): link not STOPPED, not suspended, a staging buffer free. -/
def State.lrdy (s : State) : Bool :=
  decide (s.vlu.link ≠ .stopped) && !s.vlu.suspended && (s.vlu.stage0.isFree || s.vlu.stage1.isFree)

/-- The LSELP line (R138): asserted while the governor sends. -/
def State.lselp (s : State) : Bool := decide (s.vlu.link = .sending)

/-- The entrance drive outputs (R121). -/
inductive Drive where
  | off
  | opening
  | closing
  | disabled
  deriving DecidableEq, Repr

/-- The drive output of an entrance state (R121). -/
def EntranceState.drive : EntranceState → Drive
  | .closedLocked => .off
  | .unlocking => .off
  | .opening => .opening
  | .opened => .off
  | .closing => .closing
  | .locking => .off
  | .obstructed => .off
  | .ajar => .off
  | .isolated => .disabled

/-- The bolt output of an entrance state: true is WITHDRAW (R121). -/
def EntranceState.withdraw : EntranceState → Bool
  | .closedLocked => false
  | .unlocking => true
  | .opening => true
  | .opened => false
  | .closing => false
  | .locking => false
  | .obstructed => false
  | .ajar => false
  | .isolated => false

/-- The drive output of an entrance; in CONFIG_FAULT every drive is off (R39, R120). -/
def State.driveOf (s : State) (e : Entrance) : Drive :=
  if s.run.runState = .configFault then .off else (s.ent.recs.get e).state.drive

/-- The bolt output of an entrance; in CONFIG_FAULT every bolt is at THROW (R39, R120). -/
def State.boltWithdrawn (s : State) (e : Entrance) : Bool :=
  if s.run.runState = .configFault then false else (s.ent.recs.get e).state.withdraw

/-- The select line of the route flash link: asserted while a transaction is in flight (R24). -/
def State.flashSelect (s : State) : Bool := s.rfc.inFlight.isSome

end Sys2Proof.Machine
end

