-- ==== Sys2Proof/Machine/Ops.lean ====
section
/-! DEFINITION. The named operations every unit uses: time, memory, notices and their packing (R172, R181),
handing groups of accesses to the insert queue (R168), rewrites, slot completions (R176), free values. -/

namespace Sys2Proof.Machine

/-! ### Time (R35) -/

/-- The ms from a start to now, modulo 2 to the 32. -/
def elapsed (now start : Time) : Nat := (now - start).toNat

/-- A deadline has been reached: the difference of the count, taken as a signed word, is not negative. -/
def reached (now deadline : Time) : Bool := decide ((now - deadline).toNat < 2 ^ 31)

/-- The time so many ms after a time. -/
def later (t : Time) (ms : Nat) : Time := t + BitVec.ofNat 32 ms

/-- A timer that runs has run for its time. -/
def timerDue (now : Time) (timer : Option Time) (ms : Nat) : Bool :=
  match timer with
  | none => false
  | some t => decide (ms ≤ elapsed now t)

/-! ### Memory -/

/-- What a byte that nothing has written reads as (log 4). -/
def memoryDefault : Byte := 0

/-- The byte at an address. -/
def Memory.read : Memory → Nat → Byte
  | [], _ => memoryDefault
  | (x, y) :: m, a => if x = a then y else Memory.read m a

/-- Writing a byte keeps the canonical form: writing the default removes the cell. -/
def Memory.write : Memory → Nat → Byte → Memory
  | [], a, b => if b = memoryDefault then [] else [(a, b)]
  | (x, y) :: m, a, b =>
    if a < x then (if b = memoryDefault then (x, y) :: m else (a, b) :: (x, y) :: m)
    else if a = x then (if b = memoryDefault then m else (a, b) :: m)
    else (x, y) :: Memory.write m a b

/-- Every cell lies above an address. -/
def Memory.above (a : Nat) : Memory → Bool
  | [] => true
  | (x, _) :: m => decide (a < x) && Memory.above a m

/-- The canonical form: addresses strictly rising, inside 16 MiB, no cell at the default. -/
def Memory.wf : Memory → Bool
  | [] => true
  | (x, y) :: m => decide (x < 16777216) && decide (y ≠ memoryDefault) && Memory.above x m && Memory.wf m

/-- Byte `i` of a word, byte 0 the least significant. -/
def byteOfWord (w : Word) (i : Nat) : Byte := BitVec.ofNat 8 (w.toNat >>> (8 * i))

/-- The word that holds an address, least significant byte first (00, conventions). -/
def Memory.readWord (m : Memory) (addr : Addr) : Word :=
  let a := wordBase addr
  wordOf ((Memory.read m a).toNat + 256 * (Memory.read m (a + 1)).toNat
    + 65536 * (Memory.read m (a + 2)).toNat + 16777216 * (Memory.read m (a + 3)).toNat)

/-- Write one lane of a word if it is enabled. -/
def Memory.writeLane (m : Memory) (a : Nat) (lanes : Lanes) (w : Word) (i : Nat) : Memory :=
  if lanes.getLsbD i then Memory.write m (a + i) (byteOfWord w i) else m

/-- Write the enabled lanes of the word that holds an address. -/
def Memory.writeLanes (m : Memory) (addr : Addr) (lanes : Lanes) (w : Word) : Memory :=
  let a := wordBase addr
  Memory.writeLane (Memory.writeLane (Memory.writeLane (Memory.writeLane m a lanes w 0) a lanes w 1) a lanes w 2) a lanes w 3

/-- Write a whole word. -/
def Memory.writeWord (m : Memory) (addr : Addr) (w : Word) : Memory := Memory.writeLanes m addr allLanes w

/-! ### Free values -/

/-- Put an element at a place of a list, the last place where the number is too great. -/
def insertAt {α : Type} (x : α) : Nat → List α → List α
  | _, [] => [x]
  | n, y :: ys => if n = 0 then x :: y :: ys else y :: insertAt x (n - 1) ys

/-- The order of a list that a number names; every order is named by some number. -/
def permuteBy {α : Type} : Nat → List α → List α
  | _, [] => []
  | k, x :: xs => insertAt x (k % (xs.length + 1)) (permuteBy (k / (xs.length + 1)) xs)

/-- The order of a list that a number names, among those in which each element stands before every later one it is ordered
before; every such order is named by some number. -/
def interleave {α : Type} (ordered : α → α → Bool) : Nat → List α → List α
  | _, [] => []
  | k, x :: xs =>
    let ys := interleave ordered (k / (xs.length + 1)) xs
    let room := (ys.takeWhile fun y => !ordered x y).length
    if room = 0 then x :: ys else insertAt x (k % (xs.length + 1) % (room + 1)) ys

/-- Each element of a list is ordered before every later one. -/
def chained {α : Type} (ordered : α → α → Bool) : List α → Bool
  | [] => true
  | x :: xs => xs.all (ordered x) && chained ordered xs

/-- The free value the next draw takes (log 6). -/
def State.freeValue (s : State) : Nat := Config.freeOrder s.freeIndex

/-- The state after a draw. -/
def State.drawn (s : State) : State := { s with freeIndex := s.freeIndex + 1 }

/-! ### Parameters of a notice (R181) -/

/-- A parameter: its width and its value. -/
abbrev Param := Nat × Nat

def p8 (n : Nat) : Param := (8, n)
def p16 (n : Nat) : Param := (16, n)
def p32 (n : Nat) : Param := (32, n)

/-- A signed parameter of 16 bits, in two's complement. R181 gives the width and does not say what stands for a value that
does not fit it; the low 16 bits are the model's choice (log 52). -/
def p16s (n : Int) : Param := (16, (n % 65536).toNat)

/-- The packing of R181 under way: which word is open, its bits used, the two words. -/
structure Packing where
  second : Bool
  used : Nat
  word2 : Nat
  word3 : Nat
  deriving DecidableEq, Repr

/-- Each parameter takes the lowest free bits; one that does not fit in word 2 starts word 3 (R181). -/
def Packing.add (p : Packing) (q : Param) : Packing :=
  if p.second then { p with used := p.used + q.1, word3 := p.word3 + q.2 % 2 ^ q.1 * 2 ^ p.used }
  else if p.used + q.1 ≤ 32 then { p with used := p.used + q.1, word2 := p.word2 + q.2 % 2 ^ q.1 * 2 ^ p.used }
  else ⟨true, q.1, p.word2, q.2 % 2 ^ q.1⟩

/-- The two parameter words of a list of parameters. -/
def packParams (ps : List Param) : Word × Word :=
  let p := ps.foldl Packing.add ⟨false, 0, 0, 0⟩
  (wordOf p.word2, wordOf p.word3)

/-! ### Handing groups (R168) -/

/-- A unit hands a group; at the end of the event it enters the queue or joins the entry waiters (`State.entered`). -/
def State.hand (s : State) (g : Group) : State :=
  { s with path := { s.path with handed := s.path.handed ++ [g] } }

/-- Each of the accesses as a group of one, in order. -/
def State.handEach (s : State) (es : List QEntry) : State :=
  { s with path := { s.path with handed := s.path.handed ++ es.map fun e => .accesses [e] } }

/-- The numbers of the units in a notice (11.4). -/
inductive UnitId where
  | path | run | rfc | profile | tooth | scan | motion | supervisor | rbc | entrance | valley
  deriving DecidableEq, Repr

def UnitId.code : UnitId → Nat
  | .path => 1 | .run => 2 | .rfc => 3 | .profile => 4 | .tooth => 5 | .scan => 6 | .motion => 7
  | .supervisor => 8 | .rbc => 9 | .entrance => 10 | .valley => 11

/-- The group of a notice whose two parameter words are given: its kind is its unit and its row (11.4). -/
def noticeGroup (u : UnitId) (row : Nat) (sev : Severity) (w2 w3 : Word) : Group :=
  .notice ⟨u.code * 256 + row, u.code, sev, w2, w3, 0⟩

/-- A notice whose two parameter words are given. -/
def State.noticeWords (s : State) (u : UnitId) (row : Nat) (sev : Severity) (w2 w3 : Word) : State :=
  s.hand (noticeGroup u row sev w2 w3)

/-- Queue a notice: its unit, its row in the unit's table, its severity and its parameters (R172, R181). -/
def State.notice (s : State) (u : UnitId) (row : Nat) (sev : Severity) (ps : List Param) : State :=
  s.noticeWords u row sev (packParams ps).1 (packParams ps).2

/-- WRITE_REFUSED (R166, R181): address, byte enables and reason in word 2, the data in word 3. -/
def State.writeRefused (s : State) (a : Access) (r : Reason) : State :=
  s.noticeWords .path 1 .info
    (wordOf (a.addr.toNat + a.lanes.toNat * 2 ^ 24 + r.code % 16 * 2 ^ 28)) a.data

/-! ### Rewrites (R93, R104, R126, R168) -/

/-- An entry that is not the rewrite of a word. -/
def QEntry.keepsApart (w : Guarded) (e : QEntry) : Bool := decide (e ≠ .rewrite w)

/-- A group that is not the rewrite of a word. -/
def Group.keepsApart (w : Guarded) (g : Group) : Bool := decide (g ≠ .accesses [.rewrite w])

/-- Rewrite waiting of the owner of a word; DIRECTION and SERVICE_BRAKE are never rewritten. -/
def State.rewriteWaiting (s : State) : Guarded → Bool
  | .direction => false
  | .traction => s.sup.rewriteWaiting
  | .rackBrake => s.rbc.rewriteWaiting
  | .serviceBrake => false
  | .entrance e => (s.ent.recs.get e).rewriteWaiting

/-- Set or clear rewrite waiting. -/
def State.setRewriteWaiting (s : State) (w : Guarded) (b : Bool) : State :=
  match w with
  | .direction => s
  | .traction => { s with sup := { s.sup with rewriteWaiting := b } }
  | .rackBrake => { s with rbc := { s.rbc with rewriteWaiting := b } }
  | .serviceBrake => s
  | .entrance e => { s with ent := { s.ent with recs := s.ent.recs.set e { s.ent.recs.get e with rewriteWaiting := b } } }

/-- Hand a rewrite of a word, unless one already waits. -/
def State.handRewrite (s : State) (w : Guarded) : State :=
  if s.rewriteWaiting w then s else (s.hand (.accesses [.rewrite w])).setRewriteWaiting w true

/-- Entries of the entering group take the free places of the queue (R168). -/
def State.pushEntering (s : State) : State :=
  let room := 8 - s.path.queue.length
  { s with path := { s.path with
      queue := s.path.queue ++ s.path.entering.take room
      entering := s.path.entering.drop room } }

/-- Withdraw a waiting rewrite: it is removed wherever it stands, in the queue, among the waiters or just handed, and a place that
falls free in the queue is taken by the group that is entering (R168). -/
def State.dropRewrite (s : State) (w : Guarded) : State :=
  (State.pushEntering { s with path := { s.path with
      queue := s.path.queue.filter (QEntry.keepsApart w)
      entering := s.path.entering.filter (QEntry.keepsApart w)
      waiters := s.path.waiters.filter (Group.keepsApart w)
      handed := s.path.handed.filter (Group.keepsApart w) } }).setRewriteWaiting w false

/-- The accepted value of a guarded word, as its owner holds it now (R168); an entrance rewrite carries NONE (R126). -/
def State.acceptedWord (s : State) : Guarded → Word
  | .direction => wordOf s.sup.direction.code
  | .traction => wordOf s.sup.traction
  | .rackBrake => wordOf s.rbc.word.code
  | .serviceBrake => wordOf s.rbc.serviceDemand
  | .entrance _ => 0

/-! ### Slots (R174, R176) -/

/-- Replace a slot record. -/
def State.setSlot (s : State) (k : Slot) (r : SlotRec) : State :=
  { s with path := { s.path with slots := s.path.slots.set k r } }

/-- The control word of a completion: go clear, done set, the operation code as accepted, the result code (R176). -/
def completionWord (op : Byte) (c : ResultCode) : Word :=
  wordOf (2 + op.toNat * 2 ^ 8 + c.code * 2 ^ 16)

/-- The entries of a completion: result words 6 to 15, then word 0 (R168, R176). -/
def completionEntries (m : WindowMap) (k : Slot) (r : SlotRec) (c : ResultCode) (results : List Word) : List QEntry :=
  (List.range 10).map (fun i => QEntry.write (slotAddr m k (6 + i)) (results.getD i 0) .plain)
    ++ [.write (slotAddr m k 0) (completionWord r.op c) (.slotDone k r.goOrder)]

/-- An owner completes a slot: its completion is handed as one group (R176). -/
def State.complete (s : State) (k : Slot) (c : ResultCode) (results : List Word) : State :=
  match s.path.map with
  | none => s
  | some m => s.hand (.completion k (completionEntries m k (s.path.slots.get k) c results))

/-- Complete REFUSED with a reason word and a detail word (R176). -/
def State.completeRefused (s : State) (k : Slot) (r : Reason) (detail : Nat) : State :=
  s.complete k .refused [wordOf r.code, wordOf detail]

/-- Operand word `i` (1 to 5) of a slot as returned. -/
def SlotRec.operand (r : SlotRec) (i : Nat) : Option Word :=
  if i = 1 then r.word1 else if i = 2 then r.word2 else if i = 3 then r.word3
  else if i = 4 then r.word4 else if i = 5 then r.word5 else none

/-- Operand word `i` as a number, 0 until it has returned. -/
def SlotRec.operandNat (r : SlotRec) (i : Nat) : Nat := ((r.operand i).getD 0).toNat

/-- Take an operand word that has returned. -/
def SlotRec.setOperand (r : SlotRec) (i : Nat) (w : Word) : SlotRec :=
  if i = 1 then { r with word1 := some w } else if i = 2 then { r with word2 := some w }
  else if i = 3 then { r with word3 := some w } else if i = 4 then { r with word4 := some w }
  else if i = 5 then { r with word5 := some w } else r

/-- All five operands have returned (R175). -/
def SlotRec.operandsReady (r : SlotRec) : Bool :=
  r.word1.isSome && r.word2.isSome && r.word3.isSome && r.word4.isSome && r.word5.isSome

end Sys2Proof.Machine
end

