-- ==== Sys2Proof/Machine/Cache.lean ====
section
/-! DEFINITION. The profile cache (R5, R7, R8) and the continuity check of an arriving record (R4). -/

namespace Sys2Proof.Machine

/-- A valid line with a tag. -/
def CacheLine.isFor (n : Nat) (l : CacheLine) : Bool := l.valid && l.tag == n

/-- The four lines of a segment's set: segment number modulo 16 (R5). -/
def ProfileUnit.setOf (p : ProfileUnit) (n : Nat) : List CacheLine := p.cache.getD (n % 16) []

/-- The valid line of a segment, if there is one (R5). -/
def ProfileUnit.lineOf (p : ProfileUnit) (n : Nat) : Option CacheLine := (p.setOf n).find? (CacheLine.isFor n)

/-- The record of a segment that is valid in the cache. -/
def ProfileUnit.recordOf (p : ProfileUnit) (n : Nat) : Option Segment := (p.lineOf n).map fun l => Segment.ofBytes l.bytes

/-- Change the set of a segment. -/
def ProfileUnit.updateSet (p : ProfileUnit) (n : Nat) (f : List CacheLine → List CacheLine) : ProfileUnit :=
  { p with cache := p.cache.modify (n % 16) f }

/-- Change the valid line of a segment. -/
def ProfileUnit.updateLine (p : ProfileUnit) (n : Nat) (f : CacheLine → CacheLine) : ProfileUnit :=
  p.updateSet n fun ls => ls.map fun l => if l.isFor n then f l else l

/-- A line used has age 0, and the lines younger than it each grow one older (R5). -/
def touchLines (n : Nat) (ls : List CacheLine) : List CacheLine :=
  match ls.find? (CacheLine.isFor n) with
  | none => ls
  | some u => ls.map fun l =>
      if l.isFor n then { l with age := 0 } else if l.age < u.age then { l with age := l.age + 1 } else l

/-- A lookup that hits uses the line (R5). -/
def ProfileUnit.touch (p : ProfileUnit) (n : Nat) : ProfileUnit := p.updateSet n (touchLines n)

/-- All four ways of a segment's set are pinned (R6). -/
def ProfileUnit.allPinned (p : ProfileUnit) (n : Nat) : Bool := (p.setOf n).all CacheLine.pinned

/-- Pin or unpin the line of a segment (R8). -/
def ProfileUnit.setPin (p : ProfileUnit) (n : Nat) (b : Bool) : ProfileUnit :=
  p.updateLine n fun l => { l with pinned := b }

/-- The unpinned way with the greatest age (R7). -/
def oldestUnpinned (ls : List CacheLine) : Option CacheLine :=
  ls.foldl (fun best l =>
    if l.pinned then best else
      match best with
      | none => some l
      | some b => if b.age < l.age then some l else some b) none

/-- The way chosen for a record: an invalid way, lowest-numbered first, else the oldest unpinned way (R7). -/
def chosenWay (ls : List CacheLine) : Option Nat :=
  match ls.findIdx? (fun l => !l.valid) with
  | some i => some i
  | none =>
    match oldestUnpinned ls with
    | none => none
    | some b => ls.findIdx? fun l => l.tag == b.tag && !l.pinned

/-- Write a record to way `i`: valid, unpinned, age 0; each other way younger than it was grows one older (R7). -/
def writeWay (n : Nat) (bytes : List Byte) (i : Nat) (ls : List CacheLine) : List CacheLine :=
  match ls[i]? with
  | none => ls
  | some old => ls.mapIdx fun j l =>
      if j = i then ⟨true, false, n, 0, bytes⟩
      else if l.age < old.age then { l with age := l.age + 1 } else l

/-- Place a record by R7; none where all four ways are pinned. -/
def ProfileUnit.place (p : ProfileUnit) (n : Nat) (bytes : List Byte) : Option ProfileUnit :=
  match chosenWay (p.setOf n) with
  | none => none
  | some i => some (p.updateSet n (writeWay n bytes i))

/-! ### Continuity (R4) -/

/-- A target reached by an UP link starts where the source stops; by a DOWN link it stops where the source starts. -/
def linkMeets (src tgt : Segment) : Way → Bool
  | .up => tgt.start == src.stop
  | .down => tgt.stop == src.start

/-- At a split the target of the next link lies on LOOP_A and that of the alternate link on LOOP_B. -/
def linkTrack (src tgt : Segment) (w : Way) (via : LinkKind) : Bool :=
  if src.split w then
    match via with
    | .main => decide (tgt.track = .loopA)
    | .alternate => decide (tgt.track = .loopB)
  else true

/-- The links of a record with the segment each names. -/
def Segment.links (r : Segment) : List (Nat × Way × LinkKind) :=
  [(r.next .up, Way.up, LinkKind.main), (r.alt .up, .up, .alternate), (r.next .down, .down, .main),
    (r.alt .down, .down, .alternate)].filterMap fun l => l.1.map fun n => (n, l.2.1, l.2.2)

/-- A link of `src` to `tgt` holds. -/
def linkHolds (src tgt : Segment) (l : Nat × Way × LinkKind) : Bool :=
  linkMeets src tgt l.2.1 && linkTrack src tgt l.2.1 l.2.2

/-- Every valid line of the cache, in order of sets and ways. -/
def ProfileUnit.validLines (p : ProfileUnit) : List CacheLine := p.cache.flatten.filter CacheLine.valid

/-- The first cached segment whose continuity with an arriving record fails: first along the record's own links,
then among the valid lines that name it (R4). -/
def ProfileUnit.discontinuous (p : ProfileUnit) (r : Segment) : Option Nat :=
  match r.links.find? (fun l =>
      match p.recordOf l.1 with
      | none => false
      | some t => !linkHolds r t l) with
  | some l => some l.1
  | none =>
    (p.validLines.find? fun q =>
      (Segment.ofBytes q.bytes).links.any fun l => l.1 == r.number && !linkHolds (Segment.ofBytes q.bytes) r l).map
      CacheLine.tag

end Sys2Proof.Machine
end

