-- ==== Sys2Proof/Machine/Motion.lean ====
section
/-! DEFINITION. The Motion Unit's own arithmetic (chapter 4): the source channel, channel speeds, the speed, the
position states. What joins it to the route window stands in Travel.lean. -/

namespace Sys2Proof.Machine

/-- The greatest position, in dm (00, conventions). -/
def maxPosition : Nat := 199999

/-- The position state changes (R67): in UNKNOWN and CONFIRMED the correcting code becomes NONE; at a change the
incline disagreement timer becomes inactive. -/
def MotionUnit.setPosState (m : MotionUnit) (st : PosState) : MotionUnit :=
  { m with
    posState := st
    correcting := if st = .unknown ∨ st = .confirmed then none else m.correcting
    inclineTimer := if st = m.posState then m.inclineTimer else none }

/-- The source channel for a reported kind; unchanged while the kind is unknown (R60). -/
def sourceFor (k : Option Kind) (old : SourceChannel) : SourceChannel :=
  match k with
  | none => old
  | some .adhesion => .wheel
  | some .rackEntry => .wheel
  | some .rack => .pinionA

/-- Choose the source afresh; a change to WHEEL sets the accumulator to 0 (R60). -/
def MotionUnit.chooseSource (m : MotionUnit) (k : Option Kind) : MotionUnit :=
  let src := sourceFor k m.source
  { m with source := src, accumulator := if src = .wheel ∧ m.source ≠ .wheel then 0 else m.accumulator }

/-- The speed formed from the channel speeds (R63). -/
def MotionUnit.formedSpeed (m : MotionUnit) (k : Option Kind) : Nat :=
  match k with
  | some .rack => max m.speeds.a m.speeds.b
  | some .adhesion => m.speeds.w
  | some .rackEntry => m.speeds.w
  | none =>
    match m.source with
    | .pinionA => max m.speeds.a m.speeds.b
    | .wheel => m.speeds.w

/-- Form the speed afresh (R63). -/
def MotionUnit.formSpeed (m : MotionUnit) (k : Option Kind) : MotionUnit := { m with speed := m.formedSpeed k }

/-- The quotient a channel's interval gives, before saturation; `n` is the wheel pulses per 10 m (R62). -/
def channelQuotient (n : Nat) (c : Channel) (interval : Nat) : Nat :=
  match c with
  | .pinionA => 3600 / interval
  | .pinionB => 3600 / interval
  | .wheel => 360000 / (n * interval)

/-- A computation saturates at interval 0 or above 600 (R62). -/
def channelSaturates (n : Nat) (c : Channel) (interval : Nat) : Bool :=
  decide (interval = 0) || decide (600 < channelQuotient n c interval)

/-- The channel speed of an interval (R62). -/
def channelSpeed (n : Nat) (c : Channel) (interval : Nat) : Nat :=
  if channelSaturates n c interval then 600 else channelQuotient n c interval

/-- The source channel an event belongs to. -/
def SourceChannel.isChannel : SourceChannel → Channel → Bool
  | .pinionA, .pinionA => true
  | .pinionA, .pinionB => false
  | .pinionA, .wheel => false
  | .wheel, .pinionA => false
  | .wheel, .pinionB => false
  | .wheel, .wheel => true

/-- A step in a sense counts toward rollback against a direction word (R66). -/
def countsForRollback (d : Dir) (w : Way) : Bool :=
  match d, w with
  | .none, _ => true
  | .up, .up => false
  | .up, .down => true
  | .down, .up => true
  | .down, .down => false

/-- The change a pinion event makes to D on rack (R65). -/
def differenceChange (c : Channel) (w : Way) : Int :=
  match c, w with
  | .pinionA, .up => 1
  | .pinionA, .down => -1
  | .pinionB, .up => -1
  | .pinionB, .down => 1
  | .wheel, _ => 0

/-- D held within -3 to +3 (R65). -/
def clampDifference (d : Int) : Int := max (-3) (min 3 d)

/-- The pending movement count held within its range: steps beyond it are not counted (R71). -/
def clampPending (n : Int) : Int := max (-199999) (min 199999 n)

/-- One step in a sense, as a signed number. -/
def Way.delta : Way → Int
  | .up => 1
  | .down => -1

/-- The front point for the accepted direction; with NONE the reference point (00, R9). -/
def State.frontPoint (s : State) : Int :=
  match s.sup.direction with
  | .down => (s.motion.position : Int) - Cfg.carLength s.cfg
  | .up => s.motion.position
  | .none => s.motion.position

/-- The downhill end of the car. -/
def State.lowPoint (s : State) : Int := (s.motion.position : Int) - Cfg.carLength s.cfg

/-- The rear point: the other end; with NONE the downhill end, where the window begins (R9). -/
def State.rearPoint (s : State) : Int :=
  match s.sup.direction with
  | .down => s.motion.position
  | .up => s.lowPoint
  | .none => s.lowPoint

/-- The order of the window: from the lowest position for UP and NONE, from the highest for DOWN (R9). -/
def State.orient (s : State) : Way :=
  match s.sup.direction with
  | .down => .down
  | .up => .up
  | .none => .up

/-- Queue POSITION_RANGE with the bound and the direction (R59). -/
def State.positionRange (s : State) (bound : Nat) (w : Way) : State :=
  s.notice .motion 2 .warn [p32 bound, p8 w.code]

/-- Set the position to a computed value, held within its bounds (R59): the value, and the bound with its
direction where it was held. R59 names the direction of the step; for a value that no step brought, the direction DOWN
at 0 and UP at the greatest position is the model's choice (log 41). -/
def heldPosition (x : Int) : Nat × Option (Nat × Way) :=
  if x < 0 then (0, some (0, .down))
  else if (maxPosition : Int) < x then (maxPosition, some (maxPosition, .up))
  else (x.toNat, none)

/-- The Motion Unit has lost the reference segment (R73), or UNKNOWN by another way: the position value is kept. -/
def MotionUnit.lose (m : MotionUnit) : MotionUnit := { m.setPosState .unknown with track := none }

end Sys2Proof.Machine
end

