-- ==== Sys2Proof/Machine/Window.lean ====
section
/-! DEFINITION. The route window (R8 to R14): its entries, their fills, its extension and shortening, the branch at a
split, and what its readers take from it. -/

namespace Sys2Proof.Machine

/-! ### What readers take from the window (R14) -/

/-- The entry of a segment. -/
def ProfileUnit.entryOf (p : ProfileUnit) (n : Nat) : Option Entry := p.window.find? fun e => e.seg == n

/-- The record of an entry that is PRESENT. -/
def ProfileUnit.entryRec (p : ProfileUnit) (e : Entry) : Option Segment :=
  if e.state = .present then p.recordOf e.seg else none

/-- The record of a segment whose entry stands PRESENT. -/
def ProfileUnit.presentRec (p : ProfileUnit) (n : Nat) : Option Segment := (p.entryOf n).bind p.entryRec

/-- The record of the reference segment while its entry is PRESENT. -/
def ProfileUnit.refRec (p : ProfileUnit) : Option Segment := p.refSeg.bind p.presentRec

/-- The record of the front segment while its entry is PRESENT. -/
def ProfileUnit.frontRec (p : ProfileUnit) : Option Segment := p.front.bind p.presentRec

/-- The kind of the reference segment as reported; none is unknown. -/
def ProfileUnit.refKind (p : ProfileUnit) : Option Kind := p.refRec.map Segment.kind

/-- The place of the front segment in the window. -/
def ProfileUnit.frontIndex (p : ProfileUnit) : Option Nat :=
  p.front.bind fun n => p.window.findIdx? fun e => e.seg == n

/-- The number of entries ahead of the front segment; none while there is no front segment. -/
def ProfileUnit.aheadCount (p : ProfileUnit) : Nat :=
  match p.frontIndex with
  | none => 0
  | some i => p.window.length - (i + 1)

/-- The number of entries that are not PRESENT. -/
def ProfileUnit.notPresentCount (p : ProfileUnit) : Nat := (p.window.filter fun e => decide (e.state ≠ .present)).length

/-- The records of the PRESENT entries, in window order. -/
def ProfileUnit.presentRecs (p : ProfileUnit) : List Segment := p.window.filterMap p.entryRec

/-- The record of the last entry while it is PRESENT. -/
def ProfileUnit.lastRec (p : ProfileUnit) : Option Segment := p.window.getLast?.bind p.entryRec

/-- The record of the last PRESENT entry. -/
def ProfileUnit.lastPresent (p : ProfileUnit) : Option Segment := p.presentRecs.getLast?

/-- The far end of a record in a sense: start + length for UP, start for DOWN (R10). -/
def Segment.farEnd (r : Segment) : Way → Int
  | .up => r.stop
  | .down => r.start

/-- How far a point lies before the far end. -/
def Segment.distanceToEnd (r : Segment) (w : Way) (x : Int) : Int :=
  match w with
  | .up => r.stop - x
  | .down => x - r.start

/-- A point lies beyond a record's span in a sense. -/
def Segment.passedBy (r : Segment) (w : Way) (x : Int) : Bool :=
  match w with
  | .up => decide ((r.stop : Int) ≤ x)
  | .down => decide (x < (r.start : Int))

/-! ### Fills (R6) -/

/-- A fill for a segment is in flight or waiting at the RFC. -/
def RfcUnit.fillKnown (r : RfcUnit) (n : Nat) : Bool :=
  r.fills.contains n ||
    match r.inFlight with
    | some (.fill m _) => m == n
    | _ => false

/-- A fill for a segment cannot start: no fill to join, and all four ways of its set pinned (R6). -/
def State.congested (s : State) (n : Nat) : Bool := !s.rfc.fillKnown n && s.prof.allPinned n

/-- Add a segment to the waiting fills. -/
def State.addFill (s : State) (n : Nat) : State := { s with rfc := { s.rfc with fills := s.rfc.fills ++ [n] } }

/-- Request a fill, joining one in flight or waiting (R6). One that was carried out for a PROFILE_READ alone is from
then on an ordinary fill (log 33). -/
def State.askFill (s : State) (n : Nat) : State :=
  let s := { s with rfc := { s.rfc with uncached := s.rfc.uncached.filter fun m => !(m == n) } }
  if s.rfc.fillKnown n then s else s.addFill n

/-- Request a fill for a PROFILE_READ, joining one in flight or waiting; one that congestion would keep from starting
is carried out for the read, and its record is not placed (R22). -/
def State.askRead (s : State) (n : Nat) : State :=
  if s.rfc.fillKnown n then s
  else if s.prof.allPinned n then
    State.addFill { s with rfc := { s.rfc with uncached := s.rfc.uncached ++ [n] } } n
  else s.askFill n

/-- Queue PROFILE_CONGESTION (R6, R7). -/
def State.congestionNotice (s : State) (n : Nat) : State := s.notice .profile 2 .warn [p16 n]

/-! ### The branch at a split (R13) -/

/-- The branch R13 gives: the loop track taken, else the loop choice of the authority record. -/
def State.branchChoice (s : State) : LoopSel :=
  match s.prof.loopTaken with
  | .loopA => .loopA
  | .loopB => .loopB
  | .none =>
    match s.vlu.authority with
    | none => .none
    | some a => a.choice

/-- What following a link gives. -/
inductive Follow where
  | lineEnd
  | undecided
  | seg (n : Nat) (via : LinkKind)
  deriving DecidableEq, Repr

/-- Follow the link of a record in a sense, with the branch to take at a split (R2, R13). -/
def Segment.follow (r : Segment) (w : Way) (choice : LoopSel) : Follow :=
  match r.next w with
  | none => .lineEnd
  | some n =>
    match r.alt w with
    | none => .seg n .main
    | some m =>
      match choice with
      | .none => .undecided
      | .loopA => .seg n .main
      | .loopB => .seg m .alternate

/-- The track a link leads to where the record it leaves says so: over a split the next link leads to LOOP_A and the
alternate to LOOP_B (R2). -/
def Segment.branchTrack (r : Segment) (w : Way) (via : LinkKind) : Option Track :=
  if r.split w then
    match via with
    | .main => some .loopA
    | .alternate => some .loopB
  else none

/-! ### Entries (R8, R9) -/

/-- An entry known to lie on a loop track (R13, log 42). -/
def Entry.onLoop (e : Entry) : Bool :=
  match e.track with
  | some .loopA => true
  | some .loopB => true
  | some .main => false
  | none => false

/-- The end kind a last entry that is not PRESENT gives (R10). -/
def EntryState.endKind : EntryState → Option EndKind
  | .present => none
  | .filling => some .pending
  | .unavailable => some .unavailable
  | .bad => some .bad

/-- With the last entry not PRESENT the end kind records it; with direction NONE it is DISTANCE (R10). That the last entry's
state is recorded also where 8 entries lie ahead or 14 are held, so that COUNT holds beside it, is the model's choice
(log 17). -/
def State.refreshEnd (s : State) : State :=
  if s.sup.direction = .none then s
  else
    match s.prof.window.getLast?.bind fun e => e.state.endKind with
    | none => s
    | some k => { s with prof := { s.prof with endKind := k } }

/-- The entry with a new state, and the track of its record where that is in hand, if it is the entry of a segment. -/
def Entry.become (n : Nat) (st : EntryState) (t : Option Track) (e : Entry) : Entry :=
  if e.seg = n then { e with state := st, track := t.or e.track } else e

/-- Set the state of the entry of a segment. -/
def State.setEntry (s : State) (n : Nat) (st : EntryState) (t : Option Track) : State :=
  ({ s with prof := { s.prof with window := s.prof.window.map (Entry.become n st t) } }).refreshEnd

/-- The state in which a segment joins the window, by a lookup (R6, R10): PRESENT and pinned on a hit; UNAVAILABLE
with PROFILE_CONGESTION, or FILLING with its fill requested, on a miss. -/
def State.seek (s : State) (n : Nat) : EntryState × State :=
  match s.prof.lineOf n with
  | some _ => (.present, { s with prof := (s.prof.touch n).setPin n true })
  | none => if s.congested n then (.unavailable, s.congestionNotice n) else (.filling, s.askFill n)

/-- The track of a segment's record while it is valid in the cache. -/
def ProfileUnit.cachedTrack (p : ProfileUnit) (n : Nat) : Option Track := (p.recordOf n).map Segment.track

/-- An entry is sought: it joined before, and its fill is requested again by R6 (R8, R20). -/
def State.seekAgain (s : State) (n : Nat) : State :=
  let r := s.seek n
  r.2.setEntry n r.1 (s.prof.cachedTrack n)

/-- An UNAVAILABLE entry whose set has just gained a way that is not pinned asks again by R6: a hit makes it PRESENT, else
it is FILLING. -/
def State.retry (s : State) (e : Entry) : State :=
  match s.prof.lineOf e.seg with
  | some _ =>
    State.setEntry { s with prof := (s.prof.touch e.seg).setPin e.seg true } e.seg .present (s.prof.cachedTrack e.seg)
  | none => (s.setEntry e.seg .filling none).askFill e.seg

/-- The UNAVAILABLE entries of the named sets return to FILLING, and their fills are requested again (R8). -/
def State.retrySets (s : State) (named : Nat → Bool) : State :=
  (s.prof.window.filter fun e => decide (e.state = .unavailable) && named (e.seg % 16)).foldl State.retry s

/-- Unpin the line of a segment; the UNAVAILABLE entries of its set ask again (R8). -/
def State.unpin (s : State) (n : Nat) : State :=
  State.retrySets { s with prof := s.prof.setPin n false } fun k => k == n % 16

/-- Join a segment at the end of the window; `t` is the track its link leads to, where that is known. -/
def State.joinTail (s : State) (n : Nat) (via : LinkKind) (t : Option Track) : State :=
  let r := s.seek n
  { r.2 with prof := { r.2.prof with window := r.2.prof.window ++ [⟨n, via, r.1, (s.prof.cachedTrack n).or t⟩] } }

/-- Join a segment at the head of the window. -/
def State.joinHead (s : State) (n : Nat) (via : LinkKind) (t : Option Track) : State :=
  let r := s.seek n
  { r.2 with prof := { r.2.prof with window := ⟨n, via, r.1, (s.prof.cachedTrack n).or t⟩ :: r.2.prof.window } }

/-- An entry that has left the list: its line is unpinned if it was PRESENT (R8). -/
def State.released (s : State) (e : Entry) : State := if e.state = .present then s.unpin e.seg else s

/-- Remove the last entry. -/
def State.dropLast (s : State) : State :=
  match s.prof.window.getLast? with
  | none => s
  | some e => ({ s with prof := { s.prof with window := s.prof.window.dropLast } }).released e

/-- A record lies on a loop track. -/
def Segment.onLoop (r : Segment) : Bool := decide (r.track ≠ .main)

/-- The car has wholly left an entry, which has been removed: the loop track taken returns to NONE when the entry lay on
a loop track and no entry on one remains, whatever their states (R11, R13, log 42). -/
def State.leaveLoop (s : State) (e : Entry) : State :=
  if e.onLoop && !(s.prof.window.any Entry.onLoop) then { s with prof := { s.prof with loopTaken := .none } } else s

/-- Remove the first entry, which the rear has left (R11, R13). -/
def State.dropFirst (s : State) : State :=
  match s.prof.window with
  | [] => s
  | e :: es => (({ s with prof := { s.prof with window := es } }).released e).leaveLoop e

/-- Remove the last entry, which the car has left: with direction NONE that end is the car's rear as it moves DOWN (R11,
R13). -/
def State.leaveLast (s : State) : State :=
  match s.prof.window.getLast? with
  | none => s
  | some e => s.dropLast.leaveLoop e

/-! ### Front segment and reference segment (R9, R11) -/

/-- A PRESENT entry that holds a point. -/
def ProfileUnit.entryHolds (p : ProfileUnit) (x : Int) (e : Entry) : Bool :=
  ((p.entryRec e).map fun r => r.holds x).getD false

/-- A PRESENT entry that a point has passed. -/
def ProfileUnit.entryPassed (p : ProfileUnit) (w : Way) (x : Int) (e : Entry) : Bool :=
  ((p.entryRec e).map fun r => r.passedBy w x).getD false

/-- A point of the car, moving in a direction, has wholly left an end entry of the window: it has passed the entry's span,
or, while the entry is not PRESENT, it lies in or beyond a PRESENT one of the others (R11). -/
def ProfileUnit.entryLeft (p : ProfileUnit) (w : Way) (x : Int) (e : Entry) (others : List Entry) : Bool :=
  p.entryPassed w x e
    || (decide (e.state ≠ .present) && others.any fun f => p.entryHolds x f || p.entryPassed w x f)

/-- The entries after the last PRESENT one that a point has passed, and whether there was such a one. -/
def ProfileUnit.afterPassed (p : ProfileUnit) (w : Way) (x : Int) : List Entry → List Entry × Bool
  | [] => ([], false)
  | e :: es =>
    let r := p.afterPassed w x es
    if r.2 then r else if p.entryPassed w x e then (es, true) else (e :: es, false)

/-- The entry that holds a point (R11, log 17): a PRESENT entry whose span holds it; else, among the entries that
are not PRESENT and stand next beyond the last PRESENT entry passed, the one that held it before, else the first;
else none. -/
def ProfileUnit.locate (p : ProfileUnit) (w : Way) (x : Int) (old : Option Nat) : Option Nat :=
  match p.window.find? (p.entryHolds x) with
  | some e => some e.seg
  | none =>
    let after := p.afterPassed w x p.window
    let run := after.1.takeWhile fun e => decide (e.state ≠ .present)
    match run.find? fun e => some e.seg == old with
    | some e => some e.seg
    | none => ((if after.2 then run.head? else run.getLast?).map Entry.seg)

/-- A loop track that the front or the reference segment has entered is the loop track taken (R13). -/
def ProfileUnit.enterLoop (p : ProfileUnit) (t : Option Track) : ProfileUnit :=
  match t with
  | some .loopA => { p with loopTaken := .loopA }
  | some .loopB => { p with loopTaken := .loopB }
  | some .main => p
  | none => p

/-- What is known of the track of a segment's entry. -/
def ProfileUnit.entryTrack (p : ProfileUnit) (n : Option Nat) : Option Track := (n.bind p.entryOf).bind Entry.track

/-- Find the reference segment and the front segment anew; a reference point beyond every entry leaves the reference
segment as it stands (R11). -/
def State.relocate (s : State) : State :=
  let p := s.prof
  let ref := match p.locate s.orient s.motion.position p.refSeg with
    | some n => some n
    | none => p.refSeg
  let p := { p with refSeg := ref, front := p.locate s.orient s.frontPoint p.front }
  { s with prof := (p.enterLoop (p.entryTrack p.refSeg)).enterLoop (p.entryTrack p.front) }

/-! ### Extension ahead (R10) -/

/-- floor(v² × 10 000 / (2 592 × a)) + floor(v × tb / 3 600). -/
def brakingDistance (v a tb : Nat) : Nat := v * v * 10000 / (2592 * a) + v * tb / 3600

/-- The needed distance: the braking distance from the measured speed to 0, plus 500 dm (R10). -/
def State.neededDistance (s : State) : Nat :=
  brakingDistance s.motion.speed (Cfg.smallestDeceleration s.cfg) (Cfg.buildUpTime s.cfg) + 500

/-- The distance from the front to the far end of the last entry is at least the needed distance. -/
def State.farEnough (s : State) (r : Segment) : Bool :=
  decide ((s.neededDistance : Int) ≤ r.distanceToEnd s.orient s.frontPoint)

/-- The distance from the front to the far end of the last entry, a PRESENT one, is below the needed distance. -/
def State.tooShort (s : State) : Bool :=
  match s.prof.lastRec with
  | none => false
  | some r => !s.farEnough r

/-- Set the end kind. -/
def State.setEnd (s : State) (k : EndKind) : State := { s with prof := { s.prof with endKind := k } }

/-- Extend the window from its last entry until a stopping condition of the table of R10 holds. R10 does not say which end
kind is recorded where two hold: that the state of a last entry not PRESENT goes before COUNT, and the others in the table's
order, is the model's choice, as are COUNT at 14 entries and LINE_END at a link to a segment that already stands in the window
(log 17). -/
def State.extend : Nat → State → State
  | 0, s => s
  | k + 1, s =>
    match s.prof.window.getLast? with
    | none => s
    | some e =>
      match e.state.endKind with
      | some kind => s.setEnd kind
      | none =>
        match s.prof.recordOf e.seg with
        | none => s
        | some r =>
          if s.farEnough r then s.setEnd .distance
          else if 8 ≤ s.prof.aheadCount ∨ 14 ≤ s.prof.window.length then s.setEnd .count
          else
            match r.follow s.orient s.branchChoice with
            | .lineEnd => s.setEnd .lineEnd
            | .undecided => s.setEnd .undecided
            | .seg n via =>
              if (s.prof.entryOf n).isSome then s.setEnd .lineEnd
              else State.extend k (s.joinTail n via (r.branchTrack s.orient via)).relocate

/-- The far end with direction NONE: the end follows the reference point, forward and back (R10, R11). -/
def State.followFar : Nat → State → State
  | 0, s => s
  | k + 1, s =>
    match s.prof.lastRec with
    | none => s
    | some r =>
      if r.passedBy .up s.motion.position ∧ s.prof.window.length < 14 then
        match r.follow .up s.branchChoice with
        | .lineEnd => s
        | .undecided => s
        | .seg n via => if (s.prof.entryOf n).isSome then s else State.followFar k (s.joinTail n via (r.branchTrack .up via)).relocate
      else s

/-- With direction NONE, the reference point, moving DOWN, has wholly left the last entry, as the rear leaves the first. The
last remaining entry and that of the reference segment are kept (log 17). -/
def State.farLeft (s : State) : Bool :=
  match s.prof.window.getLast? with
  | none => false
  | some e =>
    let others := s.prof.window.dropLast
    !others.isEmpty && decide (s.prof.refSeg ≠ some e.seg) && s.prof.entryLeft .down s.motion.position e others

/-- With direction NONE, remove the last entries the reference point has left, as at the rear (R11). -/
def State.leaveFar : Nat → State → State
  | 0, s => s
  | k + 1, s => if s.farLeft then State.leaveFar k s.leaveLast else s

/-- The far end with direction NONE follows the reference point both ways (R10, R11). -/
def State.farFollows (s : State) : State := (State.leaveFar 14 (State.followFar 14 s)).relocate

/-- Attempt the extension ahead; with direction NONE the window is not extended and its end kind is DISTANCE. -/
def State.extendAhead (s : State) : State :=
  if s.prof.window.isEmpty then s
  else if s.sup.direction = .none then s.setEnd .distance
  else State.extend 16 s

/-! ### The rear (R11) -/

/-- The rear point has wholly left the first entry (R11). The last remaining entry is kept (log 17). -/
def State.rearLeft (s : State) : Bool :=
  match s.prof.window with
  | [] => false
  | e :: es => !es.isEmpty && s.prof.entryLeft s.orient s.rearPoint e es

/-- Remove every entry the rear has wholly left. -/
def State.leaveRear : Nat → State → State
  | 0, s => s
  | k + 1, s => if s.rearLeft then State.leaveRear k s.dropFirst else s

/-- Set the unresolved-rear flag (R13). -/
def State.setRear (s : State) (b : Bool) : State := { s with prof := { s.prof with rearUnresolved := b } }

/-- The rear point lies before the first entry, a PRESENT one with the given record. -/
def State.rearBefore (s : State) (r : Segment) : Bool := r.passedBy s.orient.flip s.rearPoint

/-- Follow the first entry's link against the direction of travel until an entry holds the rear (R11); at a split
R13 leaves undecided the rear is unresolved. With 14 entries the last is removed first, end kind COUNT. -/
def State.followRear : Nat → State → State
  | 0, s => s
  | k + 1, s =>
    match s.prof.window.head? with
    | none => s
    | some e =>
      match s.prof.entryRec e with
      | none => s
      | some r =>
        if s.rearBefore r then
          match r.follow s.orient.flip s.branchChoice with
          | .lineEnd => s.setRear false
          | .undecided => s.setRear true
          | .seg n via =>
            if (s.prof.entryOf n).isSome then s.setRear false
            else
              let s := if 14 ≤ s.prof.window.length then s.dropLast.setEnd .count else s
              State.followRear k ((s.setRear false).joinHead n via (r.branchTrack s.orient.flip via)).relocate
        else s.setRear false

/-! ### The window follows the car (R10, R11) -/

/-- Both ends of the window follow a new position. Extension ahead is attempted when the front has crossed into a new
segment or the position has brought the far end nearer than the needed distance (R10). That room which the rear makes in a
full window waits for one of R10's occasions is the model's choice (log 17). -/
def State.windowFollows (before s : State) : State :=
  if s.prof.window.isEmpty then s
  else
    let s := s.relocate
    let s := (State.leaveRear 14 s).relocate
    let s := (State.followRear 14 s).relocate
    if s.sup.direction = .none then s.farFollows.setEnd .distance
    else if s.prof.front ≠ before.prof.front ∨ (s.tooShort ∧ !before.tooShort) then s.extendAhead
    else s

/-- The entry before the last one would serve as the last: PRESENT, ahead of the front segment, its far end no nearer
than the needed distance (R11). -/
def State.shortens (s : State) : Bool :=
  let es := s.prof.window.dropLast
  match s.prof.frontIndex, es.getLast?.bind s.prof.entryRec with
  | some i, some r => decide (i + 1 < es.length) && s.farEnough r
  | _, _ => false

/-- Shorten the far end as the needed distance falls (R11). -/
def State.shorten : Nat → State → State
  | 0, s => s
  | k + 1, s => if s.shortens then State.shorten k (s.dropLast.setEnd .distance) else s

/-- The measured speed has changed: the far end is shortened, then extension is attempted (R10, R11). -/
def State.speedChanged (s : State) : State :=
  if s.prof.window.isEmpty ∨ s.sup.direction = .none then s else (State.shorten 14 s).extendAhead

/-! ### A replaced authority (R13) -/

/-- The branch an entry beyond a split stands on: the loop track it is known to lie on, else by the link that reached
it (R2). -/
def Entry.branch (e : Entry) : LoopSel :=
  match e.track, e.via with
  | some .loopA, _ => .loopA
  | some .loopB, _ => .loopB
  | _, .main => .loopA
  | _, .alternate => .loopB

/-- A split stands between an entry and the next: its record is a split, or, while it is not PRESENT, the next lies on
a loop track and it does not (R2, log 42). -/
def ProfileUnit.splitBetween (p : ProfileUnit) (w : Way) (e f : Entry) : Bool :=
  match p.entryRec e with
  | some r => r.split w
  | none => !e.onLoop && f.onLoop

/-- The place of the first split ahead beyond which a branch has been followed, and the branch. -/
def ProfileUnit.splitAhead (p : ProfileUnit) (w : Way) : Option (Nat × LoopSel) :=
  match p.frontIndex with
  | none => none
  | some i =>
    (List.range p.window.length).findSome? fun j =>
      if i ≤ j ∧ j + 1 < p.window.length then
        match p.window[j]?, p.window[j + 1]? with
        | some e, some f => if p.splitBetween w e f then some (j, f.branch) else none
        | _, _ => none
      else none

/-- Remove the entries beyond a place of the window. -/
def State.cutAfter : Nat → Nat → State → State
  | 0, _, s => s
  | k + 1, j, s => if j + 1 < s.prof.window.length then State.cutAfter k j s.dropLast else s

/-- The authority record has been replaced while the loop track taken is NONE: compare the new choice with the branch
followed (R13). -/
def State.loopChoice (s : State) (choice : LoopSel) : State :=
  if s.prof.loopTaken ≠ .none ∨ s.sup.direction = .none then s
  else
    match s.prof.splitAhead s.orient with
    | some (j, b) =>
      if choice = b then s
      else if choice = .none then (State.cutAfter 14 j s).relocate.setEnd .undecided
      else (State.cutAfter 14 j s).relocate.extendAhead
    | none => if s.prof.endKind = .undecided ∧ choice ≠ .none then s.extendAhead else s

/-! ### Rebuild (R12) -/

/-- Take every entry off the list and unpin its line. -/
def State.emptyWindow (s : State) : State :=
  let es := s.prof.window
  es.foldl State.released { s with prof := { s.prof with
    window := [], front := none, rearUnresolved := false } }

/-- The position state has become UNKNOWN: the list is emptied, the reference segment, the loop track taken and the
end kind become NONE (R12), and the Motion Unit is UNKNOWN with no track (R73). -/
def State.loseReference (s : State) : State :=
  let s := s.emptyWindow
  { s with
    prof := { s.prof with refSeg := none, loopTaken := .none, endKind := .none, rebuild := none }
    motion := s.motion.lose }

/-- Step 1 ends the rebuild with no reference segment: PROFILE_GAP with the reference position and track and the
reason (R12), and the Motion Unit loses the reference segment (R73). -/
def State.rebuildGap (s : State) (r : Reason) : State :=
  (s.notice .profile 3 .warn [p32 s.motion.position, p8 (trackCode s.motion.track), p8 r.code]).loseReference

/-- Steps 2 and 3: the occupied segments, in the order of R9, then the extension ahead. With direction UP and NONE the
links below the reference segment are followed against the direction of travel, and at a split that R13 leaves undecided
the rear is unresolved. With direction DOWN the reference segment is the first entry and the occupied segments below it
are joined by the extension: at such a split it ends UNDECIDED with the front segment NONE, and the flag stays clear
(log 43). No link reached the first entry; that it holds `main` is the model's choice (log 49). -/
def State.rebuildList (s : State) (n : Nat) : State :=
  let s := { s with prof := { s.prof with rebuild := none, refSeg := some n, window := [], front := none } }
  let s := (s.joinTail n .main none).relocate
  let s := (State.followRear 14 s).relocate.refreshEnd
  s.extendAhead

/-- Step 1 (R12): follow links from the reference segment toward the reference point, with at most 64 steps. `got` is
a record that a fill has just brought. -/
def State.rebuildRun : Nat → Nat → Option Segment → State → State
  | 0, _, _, s => s.rebuildGap .stepLimit
  | k + 1, steps, got, s =>
    match s.prof.refSeg with
    | none => s
    | some n =>
      let found := match got with
        | some r => some r
        | none => s.prof.recordOf n
      match found with
      | none =>
        if s.congested n then s.rebuildGap .congestion
        else (({ s with prof := { s.prof with rebuild := some steps } }).askFill n).setEnd .pending
      | some r =>
        let s := { s with prof := ((if got.isNone then s.prof.touch n else s.prof)).enterLoop (some r.track) }
        if r.holds s.motion.position then s.rebuildList n
        else
          match r.follow (if r.passedBy .up s.motion.position then .up else .down) s.branchChoice with
          | .lineEnd => s.rebuildGap .lineEnd
          | .undecided => s.rebuildGap .lineEnd
          | .seg m _ =>
            if 64 ≤ steps then s.rebuildGap .stepLimit
            else State.rebuildRun k (steps + 1) none { s with prof := { s.prof with refSeg := some m } }

/-- Rebuild the window from the reference segment (R12); with no reference segment the list stays empty. -/
def State.rebuildWindow (s : State) : State :=
  if s.prof.refSeg.isNone then s
  else
    let s := s.emptyWindow
    State.rebuildRun 66 0 none { s with prof := { s.prof with rebuild := none } }

end Sys2Proof.Machine
end

