-- ==== Sys2Proof/Machine/Supervisor.lean ====
section
/-! DEFINITION. One evaluation of the Speed Supervisor (chapter 5): the current limit, the targets with their braking
distances, the supervision state, the trip record, the traction ceiling with its rewrite, the service brake claim. -/

namespace Sys2Proof.Machine

/-! ### The current limit (R78, R79) -/

/-- The car's extent shares a position with a span whose ends are included. -/
def State.covers (s : State) (first last : Int) : Bool :=
  decide (first ≤ (s.motion.position : Int)) && decide (s.lowPoint ≤ last)

/-- The records of the PRESENT entries the car occupies (R78). -/
def State.occupiedRecs (s : State) : List Segment :=
  s.prof.presentRecs.filter fun r => s.covers r.start ((r.stop : Int) - 1)

/-- The unknown-segment ceiling is in force (R79): the occupied entries run from the first to the front segment. -/
def State.unknownSegment (s : State) : Bool :=
  s.prof.rearUnresolved ||
    match s.prof.frontIndex with
    | none => true
    | some i => (s.prof.window.take (i + 1)).any fun e => decide (e.state ≠ .present)

/-- A scope covers the direction word; with NONE every scope does (R78). -/
def Scope.covers : Scope → Dir → Bool
  | _, .none => true
  | .both, .up => true
  | .both, .down => true
  | .up, .up => true
  | .up, .down => false
  | .down, .up => false
  | .down, .down => true

/-- The ceilings in force (R79). -/
def State.ceilings (s : State) : List Nat :=
  (if s.vlu.radio = .lost ∨ s.vlu.overfull then [Cfg.lostLinkCeiling s.cfg] else [])
    ++ (if s.motion.posState = .unknown then [Cfg.unknownPositionCeiling s.cfg] else [])
    ++ (if s.motion.posState = .provisional ∨ s.motion.posState = .doubtful then [Cfg.doubtfulCeiling s.cfg] else [])
    ++ (if s.unknownSegment then [Cfg.unknownSegmentCeiling s.cfg] else [])

/-- The limits of the restrictions the car covers (R78). -/
def State.restrictionLimits (s : State) : List Nat :=
  if s.motion.posState = .unknown then []
  else (s.vlu.restrictions.filter fun r => s.covers r.first r.last && r.scope.covers s.sup.direction).map Restriction.limit

/-- The current limit L: the lowest of the values present, 600 where none is (R78). -/
def State.currentLimit (s : State) : Nat :=
  (s.occupiedRecs.map (fun r => r.limitFor s.sup.direction) ++ s.restrictionLimits ++ s.ceilings).foldl min 600

/-! ### Targets (R80 to R83) -/

/-- The direction of travel, when the word names one. -/
def Dir.way : Dir → Option Way
  | .none => Option.none
  | .up => some .up
  | .down => some .down

/-- The distance from the front to a point in a direction; negative behind the front (R80). -/
def State.distanceTo (s : State) (w : Way) (p : Int) : Int :=
  match w with
  | .up => p - s.frontPoint
  | .down => s.frontPoint - p

/-- The records from the front segment onward while each entry is PRESENT (R80). -/
def State.seenRun (s : State) : List Segment :=
  match s.prof.frontIndex with
  | none => []
  | some i => ((s.prof.window.drop i).takeWhile fun e => decide (e.state = .present)).filterMap s.prof.entryRec

/-- The seen end (R80). -/
def State.seenEnd (s : State) (w : Way) : Int :=
  match s.seenRun.getLast? with
  | none => s.frontPoint
  | some r => r.farEnd w

/-- The seen end falls short of the window's last entry. -/
def State.seenShort (s : State) : Bool :=
  match s.prof.frontIndex with
  | none => !s.prof.window.isEmpty
  | some i => decide (i + s.seenRun.length < s.prof.window.length)

/-- The authority is in force: the record is VALID or EXPIRED and its direction is the word's (R81). -/
def State.authorityInForce (s : State) : Option Authority :=
  s.vlu.authority.filter fun a => decide (a.way.dir = s.sup.direction)

/-- The deceleration of a segment's class for a direction (R82, 11.2). -/
def State.decelerationOf (s : State) (w : Way) (r : Segment) : Nat :=
  Cfg.deceleration s.cfg (2 * gradientClass r.gradient + if descending r.gradient w then 1 else 0)

/-- The near end of a segment: where it begins for the direction (R81). -/
def Segment.nearEnd (r : Segment) : Way → Int
  | .up => r.start
  | .down => (r.stop : Int) - 1

/-- The front passes a segment on its way to a point; one that begins exactly at the point is not passed (R82). -/
def Segment.passedTo (r : Segment) (w : Way) (p : Int) : Bool :=
  match w with
  | .up => decide (r.nearEnd .up < p)
  | .down => decide (p < r.nearEnd .down)

/-- A point lies beyond the seen end. -/
def State.beyondSeen (s : State) (w : Way) (p : Int) : Bool :=
  match w with
  | .up => decide (s.seenEnd .up < p)
  | .down => decide (p < s.seenEnd .down)

/-- The deceleration in force for a target point (R82). -/
def State.decelerationFor (s : State) (w : Way) (p : Int) : Nat :=
  let smallest := Cfg.smallestDeceleration s.cfg
  match s.seenRun with
  | [] => smallest
  | f :: rs =>
    if s.distanceTo w p ≤ 0 then s.decelerationOf w f
    else
      ((rs.filter fun r => r.passedTo w p).map (s.decelerationOf w) ++ (if s.beyondSeen w p then [smallest] else [])).foldl
        min (s.decelerationOf w f)

/-- The braking distance from v to vt (R82). -/
def brakingTo (v vt a tb : Nat) : Nat :=
  if v ≤ vt then 0 else min 199999 ((v * v - vt * vt) * 10000 / (2592 * a) + v * tb / 3600)

/-- A target with its distance and its slack (R83). -/
def State.mkTarget (s : State) (w : Way) (k : TargetKind) (p : Int) (vt : Nat) : Target :=
  let dist := s.distanceTo w p
  ⟨k, p, dist, vt, dist - brakingTo s.motion.speed vt (s.decelerationFor w p) (Cfg.buildUpTime s.cfg)⟩

/-- The segments whose limit is lower than that of the entry before, from the front segment to the seen end (R81). -/
def lowerLimits (d : Dir) : List Segment → List Segment
  | p :: q :: rs =>
    if q.limitFor d < p.limitFor d then q :: lowerLimits d (q :: rs) else lowerLimits d (q :: rs)
  | _ => []

/-- The near edge of a restriction: start for UP, end for DOWN (R81). -/
def Restriction.nearEdge (r : Restriction) : Way → Int
  | .up => r.first
  | .down => r.last

/-- The end kinds that bring a WINDOW_END target (R81). -/
def EndKind.stops : EndKind → Bool
  | .none => false
  | .distance => false
  | .count => false
  | .lineEnd => true
  | .undecided => true
  | .pending => true
  | .unavailable => true
  | .bad => true

/-- The targets for a direction, in the order of the table of R81. -/
def State.targetsFor (s : State) (w : Way) : List Target :=
  (lowerLimits w.dir s.seenRun).map (fun r => s.mkTarget w .segmentLimit (r.nearEnd w) (r.limitFor w.dir))
    ++ ((s.vlu.restrictions.filter fun r =>
          r.scope.covers w.dir && decide (0 < s.distanceTo w (r.nearEdge w))).map
        fun r => s.mkTarget w .restriction (r.nearEdge w) r.limit)
    ++ (match s.authorityInForce with
        | none => [s.mkTarget w .noAuthority s.frontPoint 0]
        | some a =>
          s.mkTarget w .authorityEnd a.limit 0 ::
            match a.expired, a.expiry with
            | true, some p => [s.mkTarget w .expiry p 0]
            | _, _ => [])
    ++ (if s.seenShort || s.prof.endKind.stops then [s.mkTarget w .windowEnd (s.seenEnd w) 0] else [])

/-- The target list (R80). -/
def State.formTargets (s : State) : List Target :=
  match s.motion.posState, s.sup.direction.way with
  | .unknown, _ => []
  | _, none => []
  | _, some w => s.targetsFor w

/-- The considered targets: those whose speed lies below v (R83). -/
def considered (v : Nat) (ts : List Target) : List Target := ts.filter fun t => decide (t.speed < v)

/-- The considered target with the smallest slack, the first where two are equal (log 19). -/
def tightest : List Target → Option Target
  | [] => none
  | t :: ts =>
    match tightest ts with
    | none => some t
    | some u => if u.slack < t.slack then some u else some t

/-! ### The conditions of R84 -/

/-- The smallest slack lies below a bound; not met where no target is considered (R83). -/
def slackBelow (v : Nat) (ts : List Target) (x : Int) : Bool := (considered v ts).any fun t => decide (t.slack < x)

/-- The warning condition (R84). -/
def State.warning (s : State) : Bool :=
  decide (s.sup.limit < s.motion.speed) || slackBelow s.motion.speed s.sup.targets (Cfg.warnDistance s.cfg)

/-- The intervention condition (R84). -/
def State.intervention (s : State) : Bool :=
  decide (s.sup.limit + Cfg.interveneMargin s.cfg < s.motion.speed) || slackBelow s.motion.speed s.sup.targets 0

/-- A considered target of a kind has a slack below -R (R84). -/
def State.overrunOf (s : State) (k : TargetKind) : Bool :=
  (considered s.motion.speed s.sup.targets).any fun t =>
    decide (t.kind = k) && decide (t.slack < -(Cfg.overrunAllowance s.cfg : Int))

/-- The authority is in force and its end lies behind the front; while the position is UNKNOWN it is not placed
(log 20). -/
def State.endBehind (s : State) : Bool :=
  match s.authorityInForce, s.motion.posState with
  | none, _ => false
  | some _, .unknown => false
  | some a, _ => decide (s.distanceTo a.way a.limit < 0)

/-- The trip conditions that hold, in the order of the table of R84. -/
def State.ownCauses (s : State) : List Cause :=
  (if s.sup.limit + Cfg.tripMargin s.cfg < s.motion.speed then [Cause.overspeed] else [])
    ++ (if s.endBehind || s.overrunOf .authorityEnd || s.overrunOf .noAuthority then [.authorityOverrun] else [])
    ++ (if s.overrunOf .expiry then [.expiryOverrun] else [])

/-! ### Trips (R87) -/

/-- A trip cause raised at the Supervisor (R87). -/
def State.raise (s : State) (c : Cause) : State :=
  if s.sup.state = .trip then
    if s.sup.causes.contains c then s
    else ({ s with sup := { s.sup with causes := s.sup.causes ++ [c] } }).notice .supervisor 4 .warn [p8 c.code]
  else
    ({ s with sup := { s.sup with state := .trip, firstCause := some c, causes := [c], tripTime := s.now } }).notice
      .supervisor 3 .alarm [p8 c.code, p16 s.motion.speed, p32 s.motion.position]

/-! ### The supervision state (R85) -/

/-- The state decided as for NORMAL (R85). -/
def State.decidedState (s : State) : SupState :=
  if s.intervention then .service else if s.warning then .warn else .normal

/-- SERVICE may be left (R85). -/
def State.serviceEnds (s : State) : Bool :=
  decide (s.motion.speed ≤ s.sup.limit)
    && !slackBelow s.motion.speed s.sup.targets (Cfg.warnDistance s.cfg) && s.sup.acknowledged

/-- The parameter words of SERVICE_INTERVENTION (R181). -/
def State.interventionWords (s : State) : Word × Word :=
  let w2 := wordOf (s.motion.speed % 65536 + s.sup.limit % 65536 * 65536)
  if s.sup.limit + Cfg.interveneMargin s.cfg < s.motion.speed then (w2, 0)
  else
    match tightest (considered s.motion.speed s.sup.targets) with
    | none => (w2, 0)
    | some t => (w2, wordOf ((t.slack % 16777216).toNat + t.kind.code * 16777216))

/-- The state is decided (R85): entry to SERVICE clears the acknowledgement flag and queues SERVICE_INTERVENTION;
leaving it queues SERVICE_ENDED. -/
def State.decideState (s : State) : State :=
  match s.sup.state with
  | .trip => s
  | .service =>
    if s.serviceEnds then
      ({ s with sup := { s.sup with state := s.decidedState } }).notice .supervisor 2 .info []
    else s
  | _ =>
    if s.decidedState = .service then
      ({ s with sup := { s.sup with state := .service, acknowledged := false } }).noticeWords .supervisor 1 .warn
        s.interventionWords.1 s.interventionWords.2
    else { s with sup := { s.sup with state := s.decidedState } }

/-! ### The ceiling and the claim (R88, R91, R93) -/

/-- The state ceiling (R91). -/
def State.stateCeiling (s : State) : Nat :=
  match s.sup.state with
  | .normal => 1000
  | .warn => Cfg.warnTraction s.cfg
  | .service => 0
  | .trip => 0

/-- The authority ceiling (R91). -/
def State.authorityCeiling (s : State) : Nat :=
  match s.vlu.authority with
  | none => 0
  | some a => if a.expired = false ∧ a.way.dir = s.sup.direction ∧ s.rbc.state = .released then 1000 else 0

/-- The traction ceiling: the lower of the two (R91). -/
def State.tractionCeiling (s : State) : Nat := min s.stateCeiling s.authorityCeiling

/-- The ceiling is worked out afresh; a fall below the accepted TRACTION lowers it and the output at once and hands a
rewrite (R91, R93). -/
def State.setCeiling (s : State) : State :=
  let c := s.tractionCeiling
  let s := { s with sup := { s.sup with ceiling := c } }
  if c < s.sup.traction then
    ({ s with sup := { s.sup with traction := c, output := c } }).handRewrite .traction
  else s

/-- The service brake claim of the supervision state (R88). -/
def State.stateClaim (s : State) : Nat :=
  match s.sup.state with
  | .normal => 0
  | .warn => 0
  | .service => Cfg.interventionLevel s.cfg
  | .trip => 100

/-- One evaluation (R78 to R95) with the causes other units have raised, in the order they hand them: their causes
first, then L and the targets, the Supervisor's own causes, the state, the ceiling, the claim. R87 orders the units' causes as
handed; that they come before the Supervisor's own of the same event is the model's choice (log 51). -/
def State.evaluateOnce (s : State) (causes : List Cause) : State :=
  let s := causes.foldl State.raise s
  let s := { s with sup := { s.sup with limit := s.currentLimit, targets := s.formTargets } }
  let s := s.ownCauses.foldl State.raise s
  let s := s.decideState.setCeiling
  { s with sup := { s.sup with claim := s.stateClaim } }

end Sys2Proof.Machine
end

