-- ==== Sys2Proof/Machine/Brake.lean ====
section
/-! DEFINITION. The Rack Brake Controller (chapter 6): release, staged application, apply faults, pressure loss, the
service brake and the brake test. What raises a trip cause leaves the raising to the caller, which evaluates once. -/

namespace Sys2Proof.Machine

/-! ### The service brake (R112, R113) -/

/-- The service brake output is the greatest of the three claims (R112). -/
def State.formServiceOutput (s : State) : State :=
  { s with rbc := { s.rbc with serviceOutput := max s.rbc.serviceDemand (max s.sup.claim s.rbc.testClaim) } }

/-- The expected pressure of the present output: floor(F × o / 125), with F the PS full scale (R113). -/
def State.expectedPressure (s : State) : Int := Cfg.scaled s.cfg 2 4095 * s.rbc.serviceOutput / 125

/-- A trusted PS reading (R113). -/
def State.serviceReading (s : State) (v : Int) : State :=
  if s.rbc.serviceOutput = 0 ∨ s.expectedPressure ≤ v then
    { s with rbc := { s.rbc with weakTimer := none, weakFlag := false } }
  else
    match s.rbc.weakTimer with
    | none => { s with rbc := { s.rbc with weakTimer := some s.now } }
    | some t =>
      if 1000 ≤ elapsed s.now t ∧ s.rbc.weakFlag = false then
        ({ s with rbc := { s.rbc with weakFlag := true } }).notice .rbc 5 .warn
          [p16 s.rbc.serviceOutput, p16s v, p16s s.expectedPressure]
      else s

/-! ### Release (R100, R102) -/

/-- The first condition of R100 that fails, with the entrance for ENTRANCE. -/
def State.releaseObstacle (s : State) : Option (Reason × Option Entrance) :=
  if s.sup.state = .trip then some (.tripped, none)
  else if s.writeInFlight then some (.flashBusy, none)
  else
    match s.firstUnsecured with
    | some e => some (.entrance, some e)
    | none =>
      if s.measurementValid = false then some (.measurement, none)
      else if s.scan.phWindow = .low then some (.supply, none)
      else if s.run.runState ≠ .run then some (.runState, none)
      else none

/-- What R100 decides for a RELEASE: refused with a reason, or stored, with a start from APPLIED. -/
def State.releaseRefusal (s : State) : Option (Reason × Option Entrance) :=
  match s.rbc.state with
  | .applied => s.releaseObstacle
  | .releasing => none
  | .released => none
  | .applying => some (.busy, none)
  | .testing => some (.busy, none)
  | .applyFault => some (.fault, none)

/-- Queue BRAKE_RELEASE_REFUSED with the reason and the entrance (R100). -/
def State.releaseRefused (s : State) (r : Reason) (e : Option Entrance) : State :=
  s.notice .rbc 1 .info
    (match e with
     | none => [p8 r.code]
     | some i => [p8 r.code, p8 (i.val + 1)])

/-- A release starts from APPLIED (R102). -/
def BrakeUnit.startRelease (b : BrakeUnit) (now : Time) : BrakeUnit :=
  { b with state := .releasing, setpointA := 1000, setpointB := 1000, releaseTimer := some now, countedA := none, countedB := none }

/-! ### The stage plan (R105, R106) -/

/-- The entry of the stage table for a class and a direction: stage count and interval. -/
def stageEntry (cfg : List Byte) (class_ : Nat) (w : Way) : Nat × Nat :=
  let i := 2 * class_ + (if w = .up then 0 else 1)
  (Cfg.stageCount cfg i, Cfg.stageInterval cfg i)

/-- The direction in which a segment descends, for an accepted direction (R105); one of gradient 0 descends in neither, and no
entry of the table serves it. -/
def descentFor (d : Dir) (g : Int) : Option Way :=
  match d with
  | .up => if descending g .up then some .up else Option.none
  | .down => if descending g .down then some .down else Option.none
  | .none => if g < 0 then some .up else if 0 < g then some .down else Option.none

/-- The stage plan of an application: count and interval (R105). -/
def State.chosenPlan (s : State) : Nat × Nat :=
  match s.prof.refRec with
  | none => stageEntry s.cfg 4 (if s.sup.direction = .up then .up else .down)
  | some r =>
    match r.kind with
    | .adhesion => (1, 0)
    | _ =>
      match descentFor s.sup.direction r.gradient with
      | none => (1, 0)
      | some w => stageEntry s.cfg (gradientClass r.gradient) w

/-- Stage k of a plan is reached: each setpoint becomes the lower of its value and 1000 × (s - k) / s; the last stage
opens the apply window, from which readings count (R106). -/
def BrakeUnit.reachStage (b : BrakeUnit) (k : Nat) (now : Time) : BrakeUnit :=
  let x := 1000 * (b.plan.count - k) / b.plan.count
  let last := decide (b.plan.count ≤ k)
  { b with
    setpointA := min b.setpointA x
    setpointB := min b.setpointB x
    plan := { b.plan with reached := k }
    applyWindow := if last then some now else none
    countedA := if last then none else b.countedA
    countedB := if last then none else b.countedB }

/-- The next stage is due: one interval after the stage before (R106). -/
def BrakeUnit.stageDue (b : BrakeUnit) (now : Time) : Bool :=
  decide (b.state = .applying) && decide (0 < b.plan.reached) && decide (b.plan.reached < b.plan.count)
    && decide (b.plan.interval * b.plan.reached ≤ elapsed now b.plan.start)

/-- The causes of an application (R103). -/
inductive ApplyCause where
  | host
  | trip
  | releaseTimeout
  | pressureLoss
  | entrance
  deriving DecidableEq, Repr

/-- The reason RACK_BRAKE_AUTO_APPLY carries, for the causes that queue it (R103). -/
def ApplyCause.autoReason : ApplyCause → Option Reason
  | .host => none
  | .trip => none
  | .releaseTimeout => some .releaseTimeout
  | .pressureLoss => some .pressureLoss
  | .entrance => some .entrance

/-- The accepted RACK_BRAKE becomes APPLY, with a rewrite for causes other than HOST (R103, R104). -/
def State.applyWord (s : State) (c : ApplyCause) : State :=
  if s.rbc.word = .release then
    let s := { s with rbc := { s.rbc with word := .apply } }
    if c = .host then s else s.handRewrite .rackBrake
  else s

/-- Queue RACK_BRAKE_AUTO_APPLY where the cause calls for it (R103). -/
def State.autoApplyNotice (s : State) (c : ApplyCause) : State :=
  match c.autoReason with
  | none => s
  | some r => s.notice .rbc 2 .warn [p8 r.code, p16s s.scan.last.pa.value, p16s s.scan.last.pb.value]

/-- An application starts (R103): the timers stop, the plan is chosen and begins with stage 1, the word becomes
APPLY. -/
def State.startApply (s : State) (c : ApplyCause) : State :=
  let p := s.chosenPlan
  let b := { s.rbc with state := .applying, releaseTimer := none, lossA := none, lossB := none, plan := ⟨p.1, p.2, 1, s.now⟩ }
  (({ s with rbc := b.reachStage 1 s.now }).applyWord c).autoApplyNotice c

/-- Start an application from RELEASING or RELEASED; in another state nothing changes. -/
def State.applyIfReleased (s : State) (c : ApplyCause) : State :=
  match s.rbc.state with
  | .releasing => s.startApply c
  | .released => s.startApply c
  | _ => s

/-! ### The brake test (R114 to R117) -/

/-- The first condition of R114 that fails. -/
def State.testObstacle (s : State) : Option Reason :=
  if s.motion.standstill = false then some .notStandstill
  else if s.rbc.state ≠ .applied then some .notApplied
  else if s.allSecured = false then some .entrance
  else if s.sup.state = .trip then some .tripped
  else if s.writeInFlight then some .flashBusy
  else if s.measurementValid = false then some .measurement
  else if s.scan.phWindow = .low then some .supply
  else none

/-- The setpoints of a test step (R115). -/
def TestStep.setpoints : TestStep → Nat × Nat
  | .aRelease => (1000, 0)
  | .aHold => (1000, 0)
  | .aApply => (0, 0)
  | .bRelease => (0, 1000)
  | .bHold => (0, 1000)
  | .bApply => (0, 0)

/-- The time of a test step in ms (R115). -/
def TestStep.limit : TestStep → Nat
  | .aRelease => 3000
  | .aHold => 2000
  | .aApply => 2000
  | .bRelease => 3000
  | .bHold => 2000
  | .bApply => 2000

/-- The step after a step that passes; none after the last. -/
def TestStep.following : TestStep → Option TestStep
  | .aRelease => some .aHold
  | .aHold => some .aApply
  | .aApply => some .bRelease
  | .bRelease => some .bHold
  | .bHold => some .bApply
  | .bApply => none

/-- The pinion a step tests. -/
def TestStep.pinion : TestStep → Pinion
  | .aRelease => .a
  | .aHold => .a
  | .aApply => .a
  | .bRelease => .b
  | .bHold => .b
  | .bApply => .b

/-- The four times as result words; a time not recorded reads FFFF FFFFh (11.3). -/
def BrakeTest.times (t : BrakeTest) : List Word :=
  [t.aRelease, t.aApply, t.bRelease, t.bApply].map fun x =>
    match x with
    | none => 0xFFFFFFFF
    | some n => wordOf n

/-- Record the time of a release or apply step that passes (R115). -/
def BrakeTest.record (t : BrakeTest) (ms : Nat) : BrakeTest :=
  match t.step with
  | .aRelease => { t with aRelease := some ms }
  | .aHold => t
  | .aApply => { t with aApply := some ms }
  | .bRelease => { t with bRelease := some ms }
  | .bHold => t
  | .bApply => { t with bApply := some ms }

/-- A test step begins: its setpoints, its start time. -/
def BrakeUnit.beginStep (b : BrakeUnit) (t : BrakeTest) (st : TestStep) (now : Time) : BrakeUnit :=
  { b with
    setpointA := st.setpoints.1
    setpointB := st.setpoints.2
    test := some { t with step := st, start := now } }

/-- A test starts (R115). -/
def State.startTest (s : State) (k : Slot) : State :=
  let b := { s.rbc with state := .testing, testClaim := 100 }
  (({ s with rbc := b.beginStep ⟨.aRelease, s.now, k, none, none, none, none⟩ .aRelease s.now }).formServiceOutput)

/-- BRAKE_TEST is handed over (R114). -/
def State.brakeTest (s : State) (k : Slot) : State :=
  if s.rbc.state = .testing then s.complete k .busy []
  else
    match s.testObstacle with
    | some r => s.completeRefused k r 0
    | none => s.startTest k

/-- Queue BRAKE_TEST_RESULT: result, step, reason (R116). -/
def State.testNotice (s : State) (c : ResultCode) (st : TestStep) (r : Nat) : State :=
  s.notice .rbc 6 (if c = .ok then .info else .warn) [p8 c.code, p8 st.code, p8 r]

/-- The last reading of a pinion's pressure (R97), trusted or not: that R116's result word may give an untrusted one is the
model's choice (log 50). -/
def State.lastPressure (s : State) : Pinion → Int
  | .a => s.scan.last.pa.value
  | .b => s.scan.last.pb.value

/-- A pinion as a result word names it (11.3). -/
def pinionCode : Pinion → Nat
  | .a => 0
  | .b => 1

/-- The test is over without having passed: setpoints 0, no test claim, APPLYING with a 1-stage plan at its last stage
(R116, R117). -/
def State.dropTest (s : State) : State :=
  (({ s with rbc := { s.rbc with
      state := .applying, setpointA := 0, setpointB := 0, testClaim := 0, test := none
      plan := ⟨1, 0, 1, s.now⟩, applyWindow := some s.now, countedA := none, countedB := none } }).formServiceOutput)

/-- A step fails (R116). -/
def State.failTest (s : State) (t : BrakeTest) : State :=
  ((s.dropTest).complete t.slot .failed
    ([wordOf t.step.code, wordOf (pinionCode t.step.pinion), wordOfInt (s.lastPressure t.step.pinion)] ++ t.times)).testNotice
      .failed t.step 0

/-- The test is overtaken (R117): the slot completes ABORTED with the reason and the step. -/
def State.abortTest (s : State) (r : Reason) : State :=
  match s.rbc.test with
  | none => s
  | some t =>
    ((s.dropTest).complete t.slot .aborted [wordOf r.code, wordOf t.step.code]).testNotice .aborted t.step r.code

/-- A step passes: its time is recorded and the next begins at once; after the last the test has passed (R115,
R116). -/
def State.passStep (s : State) (t : BrakeTest) : State :=
  let t := t.record (elapsed s.now t.start)
  match t.step.following with
  | some st => { s with rbc := s.rbc.beginStep t st s.now }
  | none =>
    let s := ({ s with rbc := { s.rbc with
      state := .applied, setpointA := 0, setpointB := 0, testClaim := 0, test := none } }).formServiceOutput
    (s.complete t.slot .ok t.times).testNotice .ok t.step 0

/-- A trusted reading of a pinion during a test (R115). -/
def State.testReading (s : State) (p : Pinion) (v : Int) : State :=
  match s.rbc.test with
  | none => s
  | some t =>
    if t.step.pinion ≠ p then s
    else
      match t.step with
      | .aHold => if v < Cfg.lossLevel s.cfg then s.failTest t else s
      | .bHold => if v < Cfg.lossLevel s.cfg then s.failTest t else s
      | .aRelease => if (Cfg.releaseThreshold s.cfg : Int) ≤ v then s.passStep t else s
      | .bRelease => if (Cfg.releaseThreshold s.cfg : Int) ≤ v then s.passStep t else s
      | .aApply => if v < (Cfg.appliedThreshold s.cfg : Int) then s.passStep t else s
      | .bApply => if v < (Cfg.appliedThreshold s.cfg : Int) then s.passStep t else s

/-! ### Pressure readings (R102, R106, R108, R110) -/

/-- The reading counts for its pinion. -/
def BrakeUnit.count (b : BrakeUnit) (p : Pinion) (v : Int) : BrakeUnit :=
  match p with
  | .a => { b with countedA := some v }
  | .b => { b with countedB := some v }

/-- Both pressures have counted readings that satisfy a test. -/
def BrakeUnit.both (b : BrakeUnit) (f : Int → Bool) : Bool :=
  match b.countedA, b.countedB with
  | some x, some y => f x && f y
  | _, _ => false

/-- The loss timer of a pinion after a reading (R110). -/
def lossAfter (timer : Option Time) (now : Time) (low : Bool) : Option Time := if low then timer.or (some now) else none

/-- The application is confirmed: APPLIED, the window closed, the plan ended. -/
def BrakeUnit.confirmed (b : BrakeUnit) : BrakeUnit :=
  { b with state := .applied, applyWindow := none, plan := { b.plan with reached := 0 } }

/-- A trusted PA or PB reading, by the rack brake state. -/
def State.pressureReading (s : State) (p : Pinion) (v : Int) : State :=
  match s.rbc.state with
  | .applied => s
  | .releasing =>
    let b := s.rbc.count p v
    if b.both fun x => decide ((Cfg.releaseThreshold s.cfg : Int) ≤ x) then
      { s with rbc := { b with state := .released, releaseTimer := none } }
    else { s with rbc := b }
  | .released =>
    let low := decide (v < Cfg.lossLevel s.cfg)
    match p with
    | .a => { s with rbc := { s.rbc with lossA := lossAfter s.rbc.lossA s.now low } }
    | .b => { s with rbc := { s.rbc with lossB := lossAfter s.rbc.lossB s.now low } }
  | .applying =>
    if s.rbc.applyWindow.isNone then s
    else
      let b := s.rbc.count p v
      if b.both fun x => decide (x < (Cfg.appliedThreshold s.cfg : Int)) then { s with rbc := b.confirmed }
      else { s with rbc := b }
  | .applyFault =>
    let b := s.rbc.count p v
    if b.both fun x => decide (x < (Cfg.appliedThreshold s.cfg : Int)) then
      ({ s with rbc := b.confirmed }).notice .rbc 4 .info []
    else { s with rbc := b }
  | .testing => s.testReading p v

/-! ### Orders (R101, R108, R109, R117) -/

/-- The apply order of the entry to TRIP (R109). -/
def State.applyOrder (s : State) : State :=
  match s.rbc.state with
  | .releasing => s.startApply .trip
  | .released => s.startApply .trip
  | .testing => s.abortTest .trip
  | .applied => s
  | .applying => s
  | .applyFault => s

/-- The Entrance Controller reports its states: an entrance not secured starts an application, or ends a test (R101,
R117). -/
def State.brakeSeesEntrances (s : State) : State :=
  if s.allSecured then s
  else
    match s.rbc.state with
    | .releasing => s.startApply .entrance
    | .released => s.startApply .entrance
    | .testing => s.abortTest .entrance
    | .applied => s
    | .applying => s
    | .applyFault => s

/-- Entry to APPLY_FAULT (R108); the caller raises the cause. -/
def State.enterApplyFault (s : State) : State :=
  ({ s with rbc := { s.rbc with
      state := .applyFault, setpointA := 0, setpointB := 0, applyWindow := none
      plan := { s.rbc.plan with reached := 0 }, countedA := none, countedB := none } }).notice .rbc 3 .alarm
    [p16s s.scan.last.pa.value, p16s s.scan.last.pb.value, p16 (Cfg.appliedThreshold s.cfg)]

end Sys2Proof.Machine
end

