-- ==== Sys2Proof/Machine/Travel.lean ====
section
/-! DEFINITION. Where the Motion Unit and the route window meet: the source, track and speed that follow the
reference segment (R60, R63, R65, R76), position steps (R59, R61, R66, R71), the setting of the position (R69, R71,
R72), the incline cross-check (R74). -/

namespace Sys2Proof.Machine

/-- The reference segment, its kind or its presence may have changed: the source is chosen afresh (R60), rack entry
pending is set where the kind becomes RACK (R65), the track is taken from a PRESENT reference entry (R76). -/
def State.syncReference (before s : State) : State :=
  let k := s.prof.refKind
  let m := s.motion
  { s with motion := ({ m with
      track := (s.prof.refRec.map Segment.track).or m.track
      rackEntryPending :=
        m.rackEntryPending || (decide (k = some Kind.rack) && decide (before.prof.refKind ≠ some Kind.rack)) }).chooseSource k }

/-- The speed is formed afresh and a change of it handed to the Profile Unit (R63). -/
def State.syncSpeed (s : State) : State :=
  let m := s.motion.formSpeed s.prof.refKind
  if m.speed = s.motion.speed then s else { s with motion := m }.speedChanged

/-- What follows a change of the window that no tooth event made. -/
def State.syncMotion (before s : State) : State := (State.syncReference before s).syncSpeed

/-- Give the position a value, held within its bounds; where it is held, the state is DOUBTFUL in place of `st` and
POSITION_RANGE is queued (R59). -/
def State.setPosition (s : State) (x : Int) (st : PosState) : State :=
  let h := heldPosition x
  let m := { s.motion with position := h.1 }
  match h.2 with
  | none => { s with motion := m.setPosState st }
  | some (bound, w) => State.positionRange { s with motion := m.setPosState .doubtful } bound w

/-- A position step (R59, R61): the rollback count (R66); in UNKNOWN the pending movement count (R71), else the
position, which the window and the choice of source follow. A step held at a bound while the state is DOUBTFUL already leaves
the correcting code as it stands: that is the model's choice (log 41). -/
def State.positionStep (s : State) (w : Way) : State :=
  let m := if countsForRollback s.sup.direction w then { s.motion with rollback := min 3 (s.motion.rollback + 1) } else s.motion
  let s := { s with motion := m }
  if m.posState = .unknown then
    { s with motion := { m with pendingCount := m.pendingCount.map fun n => clampPending (n + w.delta) } }
  else
    let t := s.setPosition ((m.position : Int) + w.delta) m.posState
    State.syncReference s (State.windowFollows s t)

/-- The steps the wheel accumulator brings: while it stands at N or more a step UP, while at -N or less a step DOWN
(R61). -/
def State.wheelSteps : Nat → State → State
  | 0, s => s
  | k + 1, s =>
    let n : Int := (Cfg.wheelPulses s.cfg : Int)
    if n ≤ s.motion.accumulator then
      State.wheelSteps k (({ s with motion := { s.motion with accumulator := s.motion.accumulator - n } }).positionStep .up)
    else if s.motion.accumulator ≤ -n then
      State.wheelSteps k (({ s with motion := { s.motion with accumulator := s.motion.accumulator + n } }).positionStep .down)
    else s

/-- The movement a tooth event of the source channel makes (R61). -/
def State.moveBy (s : State) (c : Channel) (w : Way) : State :=
  match s.motion.source, c with
  | .pinionA, .pinionA => s.positionStep w
  | .wheel, .wheel =>
    State.wheelSteps 20 { s with motion := { s.motion with accumulator := s.motion.accumulator + 100 * w.delta } }
  | _, _ => s

/-- The position is set from nothing by a search or a walk: value, track and state; the pending movement count becomes
inactive; the change of state brings the rebuild (R12, R71, R72). -/
def State.placeCar (s : State) (x : Int) (t : Track) (st : PosState) : State :=
  let n := (s.motion.pendingCount).getD 0
  let p := s.setPosition (x + n) st
  let p := { p with motion := { p.motion with track := some t, pendingCount := none } }
  State.syncMotion s p.rebuildWindow

/-! ### Markers in a known position (R15, R69, R70) -/

/-- The records linked from a segment that are valid in the cache, main and alternate, either direction (R15). The
order, up before down and main before alternate in each, is the model's choice (log 32). -/
def ProfileUnit.neighbours (p : ProfileUnit) (r : Segment) : List Segment :=
  r.links.filterMap fun l => p.recordOf l.1

/-- The lookup of a marker code (R15): PRESENT entries in window order, then the front segment's neighbours. -/
def ProfileUnit.lookupMarker (p : ProfileUnit) (code : Nat) : Option (Segment × Nat) :=
  match p.frontRec with
  | none => none
  | some f => (p.presentRecs ++ p.neighbours f).findSome? fun r => (r.markerPos code).map fun x => (r, x)

/-- An entry whose track does not contradict the marker's: on the marker's track, or one of the two on MAIN. -/
def sameRoute (a b : Segment) : Bool := decide (a.track = b.track) || !a.onLoop || !b.onLoop

/-- The reference point lies outside every entry of the window, on the track of the marker's segment (R69, log 18). -/
def State.outsideWindow (s : State) (marker : Segment) : Bool :=
  match s.prof.locate s.orient s.motion.position none with
  | none => true
  | some n =>
    match s.prof.presentRec n with
    | none => false
    | some r => !sameRoute r marker

/-- The state a marker found leads to (R69). -/
def markerState (st : PosState) (correcting : Option Nat) (code : Nat) (agrees : Bool) : PosState :=
  if !agrees then .doubtful
  else
    match st with
    | .doubtful => if correcting = some code then .doubtful else .confirmed
    | .unknown => .confirmed
    | .provisional => .confirmed
    | .confirmed => .confirmed

/-- A marker found in the lookup is judged and corrects the position (R69). A correction held at a bound is DOUBTFUL: its
correcting code is `code` where the marker mismatched, the code as it stood where R69 itself keeps the state DOUBTFUL, and
NONE where R69 would confirm; the first two are the model's choice (log 41). -/
def State.markerFound (s : State) (code : Nat) (r : Segment) (x : Nat) : State :=
  let implied : Int := (x : Int) + Cfg.readerOffset s.cfg
  let dev : Int := implied - s.motion.position
  let onTrack := decide (s.motion.track = some r.track)
  let agrees := onTrack && decide (dev.natAbs ≤ Cfg.markerTolerance s.cfg)
  let st := markerState s.motion.posState s.motion.correcting code agrees
  let p := s.setPosition implied st
  let p := { p with
    motion := { p.motion with
      track := some r.track
      correcting := if !agrees then some code else if st = .confirmed then none else p.motion.correcting }
    prof := ({ p.prof with refSeg := some r.number }).enterLoop (some r.track) }
  let p := if agrees then p else
    p.noticeWords .motion 4 .warn (wordOfInt dev)
      (wordOf (code + (if onTrack then Reason.distance.code else Reason.track.code) * 2 ^ 16))
  let confirmed := decide (p.motion.posState = .confirmed) && decide (s.motion.posState ≠ .confirmed)
  State.syncMotion s (if confirmed || p.outsideWindow r then p.rebuildWindow else State.windowFollows s p)

/-- A marker event in PROVISIONAL, CONFIRMED or DOUBTFUL (R68 to R70). -/
def State.markerKnown (s : State) (code : Nat) : State :=
  match s.prof.lookupMarker code with
  | none => s.notice .motion 5 .info [p16 code, p32 s.motion.position]
  | some (r, x) => s.markerFound code r x

/-! ### The incline cross-check (R74) -/

/-- The front point lies at least 20 dm from both ends of a segment. -/
def Segment.wellInside (r : Segment) (x : Int) : Bool :=
  decide ((r.start : Int) + 20 ≤ x) && decide (x ≤ (r.stop : Int) - 21)

/-- The record a reading is compared with, where the reading is taken (R74); the scan hands the reading with a
measurement state of QUALIFYING or VALID. -/
def State.inclineRecord (s : State) (usable : Bool) : Option Segment :=
  if (s.motion.posState = .provisional ∨ s.motion.posState = .confirmed) ∧ s.motion.standstill = false ∧ usable then
    s.prof.frontRec.filter fun r => r.wellInside s.frontPoint
  else none

/-- One incline reading (R74). -/
def State.inclineReading (s : State) (v : Int) (usable : Bool) : State :=
  match s.inclineRecord usable with
  | none => s
  | some r =>
    if (v - r.gradient).natAbs ≤ Cfg.inclineTolerance s.cfg then
      { s with motion := { s.motion with inclineTimer := none } }
    else
      match s.motion.inclineTimer with
      | none =>
        ({ s with motion := { s.motion with inclineTimer := some s.now } }).notice .motion 6 .warn
          [p16s v, p16s r.gradient]
      | some t =>
        if 1000 * Cfg.inclinePersistence s.cfg ≤ elapsed s.now t then
          { s with motion := { s.motion.setPosState .doubtful with correcting := none, inclineTimer := none } }
        else s

end Sys2Proof.Machine
end

