-- ==== Sys2Proof/Machine/Entrance.lean ====
section
/-! DEFINITION. The Entrance Controller (chapter 7): the motions of one entrance, its requests, release by side, lock
loss. What raises a trip cause leaves the raising to the caller. -/

namespace Sys2Proof.Machine

/-! ### The record of one entrance (R121, R129) -/

/-- LOCKING: the drive is off, the settle timer takes the time of entry (R129). -/
def EntranceRec.toLocking (r : EntranceRec) (now : Time) : EntranceRec :=
  { r with state := .locking, motionTimer := some now, settle := some now }

/-- CLOSING starts; a closed-locked input that reads true ends it at once in LOCKING (R129, log 21). -/
def EntranceRec.toClosing (r : EntranceRec) (now : Time) : EntranceRec :=
  if r.closedLocked then r.toLocking now else { r with state := .closing, motionTimer := some now, settle := none }

/-- The open end: OPEN, or CLOSING after a reopening (R129, R131). -/
def EntranceRec.atOpenEnd (r : EntranceRec) (now : Time) : EntranceRec :=
  if r.autoClose then { r with autoClose := false }.toClosing now
  else { r with state := .opened, motionTimer := none, settle := none }

/-- OPENING starts; an open-end input that reads true ends it at once (R129, log 21). -/
def EntranceRec.toOpening (r : EntranceRec) (now : Time) : EntranceRec :=
  if r.openEnd then r.atOpenEnd now else { r with state := .opening, motionTimer := some now, settle := none }

/-- UNLOCKING starts (R125, R126): no held request, the attempt count 0. -/
def EntranceRec.toUnlocking (r : EntranceRec) (now : Time) : EntranceRec :=
  let r := { r with held := false, attempts := 0 }
  if r.closedLocked then { r with state := .unlocking, motionTimer := some now, settle := none } else r.toOpening now

/-- CLOSED_LOCKED: the timers become inactive, the attempt count 0 (R129, R132). -/
def EntranceRec.toSecured (r : EntranceRec) : EntranceRec :=
  { r with state := .closedLocked, motionTimer := none, settle := none, attempts := 0 }

/-- AJAR with the drive off and the bolt at THROW. -/
def EntranceRec.toAjar (r : EntranceRec) (settle : Option Time) : EntranceRec :=
  { r with state := .ajar, motionTimer := none, settle := settle, autoClose := false }

/-- The closed-locked input rises (R129, R132). -/
def EntranceRec.lockRises (r : EntranceRec) (now : Time) : EntranceRec :=
  match r.state with
  | .closing => r.toLocking now
  | .locking => { r with settle := some now }
  | .obstructed => { r with settle := some now }
  | .ajar => { r with settle := some now }
  | _ => r

/-- The closed-locked input falls where that is no lock loss (R129, R132). -/
def EntranceRec.lockFalls (r : EntranceRec) (now : Time) : EntranceRec :=
  match r.state with
  | .unlocking => r.toOpening now
  | .locking => { r with settle := none }
  | .obstructed => { r with settle := none }
  | .ajar => { r with settle := none }
  | _ => r

/-- The configured time of a timed motion (R121, R130). -/
def EntranceState.motionTime (st : EntranceState) (cfg : List Byte) : Option Nat :=
  match st with
  | .unlocking => some (Cfg.unlockTime cfg)
  | .opening => some (Cfg.openingTime cfg)
  | .closing => some (Cfg.closingTime cfg)
  | .locking => some (Cfg.lockTime cfg)
  | _ => none

/-- Entrances 1 and 2 are on the LEFT, 3 and 4 on the RIGHT. -/
def entranceSide (e : Entrance) : Side := if e.val < 2 then .left else .right

/-- A side, or BOTH, serves a side of the car. -/
def Side.serves (grant side : Side) : Bool := decide (grant = .both) || decide (grant = side)

/-! ### Access to the records -/

def State.entrance (s : State) (e : Entrance) : EntranceRec := s.ent.recs.get e

def State.setEntrance (s : State) (e : Entrance) (r : EntranceRec) : State :=
  { s with ent := { s.ent with recs := s.ent.recs.set e r } }

/-- Release of a side as it stands. -/
def State.releaseOf (s : State) : Side → Bool
  | .left => s.ent.releaseLeft
  | .right => s.ent.releaseRight
  | .both => s.ent.releaseLeft && s.ent.releaseRight

/-- Release of the side of an entrance. -/
def State.released? (s : State) (e : Entrance) : Bool := s.releaseOf (entranceSide e)

/-! ### Release (R122, R123) -/

/-- The reference point lies in the stop window of a record. -/
def Segment.inStopWindow (r : Segment) (x : Nat) : Bool :=
  decide (r.start + r.stopOffset ≤ x) && decide (x < r.start + r.stopOffset + r.stopLength)

/-- The station grant (R122). -/
def State.stationGrant (s : State) (side : Side) : Bool :=
  match s.prof.frontRec with
  | none => false
  | some r =>
    r.station && r.inStopWindow s.motion.position && (r.side.map fun g => g.serves side).getD false

/-- The permit grant (R122). -/
def State.permitGrant (s : State) (side : Side) : Bool :=
  match s.vlu.permit with
  | none => false
  | some p => p.side.serves side && decide (p.first ≤ s.motion.position) && decide (s.motion.position ≤ p.last)

/-- A side has release (R122). -/
def State.hasRelease (s : State) (side : Side) : Bool :=
  s.motion.standstill && decide (s.rbc.state = .applied) && decide (s.run.runState = .run)
    && decide (s.motion.posState ≠ .unknown) && (s.stationGrant side || s.permitGrant side)

/-- Start the held request of an entrance whose side has gained release (R126). -/
def State.startHeld (gained : Side → Bool) (s : State) (e : Entrance) : State :=
  let r := s.entrance e
  if r.held && gained (entranceSide e) then s.setEntrance e (r.toUnlocking s.now) else s

/-- Both release flags are judged afresh; a side that gains release starts its held requests (R123). -/
def State.judgeRelease (s : State) : State :=
  let l := s.hasRelease .left
  let r := s.hasRelease .right
  let gained : Side → Bool := fun side =>
    match side with
    | .left => l && !s.ent.releaseLeft
    | .right => r && !s.ent.releaseRight
    | .both => false
  [0, 1, 2, 3].foldl (State.startHeld gained) { s with ent := { s.ent with releaseLeft := l, releaseRight := r } }

/-! ### Held requests (R126) -/

/-- A held request is cancelled and its word rewritten with NONE (R126). -/
def State.cancelHeld (s : State) (e : Entrance) : State :=
  if (s.entrance e).held then
    (s.setEntrance e { s.entrance e with held := false }).handRewrite (.entrance e)
  else s

/-! ### Requests (R124 to R128) -/

/-- Queue ENTRANCE_REQUEST_REFUSED (R124). -/
def State.requestRefused (s : State) (e : Entrance) (q : Request) (r : Reason) : State :=
  s.notice .entrance 2 .info [p8 (e.val + 1), p8 q.code, p8 (s.entrance e).state.code, p8 r.code]

/-- An OPEN request (R125): the reason it is absorbed with, or the record after it; held by R126 where CLOSED_LOCKED
has no release. -/
def EntranceRec.takeOpen (r : EntranceRec) (release : Bool) (now : Time) : Reason ⊕ EntranceRec :=
  match r.state with
  | .closedLocked =>
    if release then .inr (r.toUnlocking now)
    else if r.held then .inr r
    else .inr { r with held := true, heldTime := now }
  | .unlocking => .inr r
  | .opened => .inr r
  | .opening => .inr { r with autoClose := false }
  | .closing => if release then .inr ({ r with autoClose := false }.toOpening now) else .inl .noRelease
  | .locking => .inl .busy
  | .obstructed => if release then .inr ({ r with attempts := 0 }.toOpening now) else .inl .noRelease
  | .ajar => if release then .inr ({ r with attempts := 0 }.toOpening now) else .inl .noRelease
  | .isolated => .inl .isolated

/-- A CLOSE request (R127). -/
def EntranceRec.takeClose (r : EntranceRec) (now : Time) : Reason ⊕ EntranceRec :=
  match r.state with
  | .closedLocked => .inr { r with held := false }
  | .unlocking => .inr ({ r with autoClose := false }.toClosing now)
  | .opening => .inr ({ r with autoClose := false }.toClosing now)
  | .opened => .inr ({ r with autoClose := false }.toClosing now)
  | .closing => .inr r
  | .locking => .inr r
  | .obstructed => .inr ({ r with attempts := 0 }.toClosing now)
  | .ajar => .inr ({ r with attempts := 0 }.toClosing now)
  | .isolated => .inl .isolated

/-- An ISOLATE request (R128). -/
def EntranceRec.takeIsolate (r : EntranceRec) : Reason ⊕ EntranceRec :=
  match r.state with
  | .closedLocked => .inr { r with held := false, state := .isolated }
  | .isolated => .inr r
  | _ => .inl .notClosed

/-- A RESTORE request (R128). -/
def EntranceRec.takeRestore (r : EntranceRec) : Reason ⊕ EntranceRec :=
  match r.state with
  | .isolated => .inr { r with state := .closedLocked }
  | _ => .inl .notIsolated

/-- A request, by its kind (R125 to R128). -/
def EntranceRec.take (r : EntranceRec) (q : Request) (release : Bool) (now : Time) : Reason ⊕ EntranceRec :=
  match q with
  | .none => .inr { r with held := false }
  | .opening => r.takeOpen release now
  | .closing => r.takeClose now
  | .isolate => r.takeIsolate
  | .restore => r.takeRestore

/-- A request word in RUN (R124): whether it is stored, and the state after it. A held OPEN queues ENTRANCE_HELD. -/
def State.decideRequest (s : State) (e : Entrance) (q : Request) : Bool × State :=
  let r := s.entrance e
  match r.take q (s.released? e) s.now with
  | .inl reason => (false, s.requestRefused e q reason)
  | .inr r' =>
    let t := s.setEntrance e r'
    (true, if r'.held && !r.held then t.notice .entrance 3 .info [p8 (e.val + 1)] else t)

/-! ### Motions (R129 to R132) -/

/-- An obstruction rises in CLOSING (R131). -/
def State.obstructed (s : State) (e : Entrance) : State :=
  let r := s.entrance e
  if r.attempts < Cfg.reopenAttempts s.cfg then
    s.setEntrance e ({ r with attempts := r.attempts + 1, autoClose := true }.toOpening s.now)
  else
    (s.setEntrance e { r with state := .obstructed, motionTimer := none, settle := none }).notice .entrance 6 .warn
      [p8 (e.val + 1), p16 r.attempts]

/-- A motion times out (R130): AJAR, with the settle timer of a LOCKING kept. An OPENING, like an UNLOCKING, that leaves
the closed-locked input true waits for its next rise; both are the model's reading (log 21). -/
def State.motionTimeout (s : State) (e : Entrance) : State :=
  let r := s.entrance e
  (s.setEntrance e (r.toAjar (if r.state = .locking then r.settle else none))).notice .entrance 5 .warn
    [p8 (e.val + 1), p8 r.state.code]

/-- The closed-locked input has stood true for 50 ms (R129, R132): ENTRANCE_SECURED is queued in OBSTRUCTED and AJAR. -/
def State.settled (s : State) (e : Entrance) : State :=
  let r := s.entrance e
  match r.state with
  | .locking => s.setEntrance e r.toSecured
  | .obstructed => (s.setEntrance e r.toSecured).notice .entrance 7 .info [p8 (e.val + 1)]
  | .ajar => (s.setEntrance e r.toSecured).notice .entrance 7 .info [p8 (e.val + 1)]
  | _ => s

/-! ### Locks lost (R133) -/

/-- A lock loss raises ENTRANCE_UNLOCKED (R133). -/
def State.lockLossTrips (s : State) : Bool :=
  !s.motion.standstill || decide (s.rbc.state ≠ .applied) || decide (s.run.runState = .stabled)

/-- The entrance becomes AJAR, a held request is cancelled, ENTRANCE_LOCK_LOST is queued (R133). -/
def State.lockLost (s : State) (e : Entrance) : State :=
  let r := s.entrance e
  ((s.setEntrance e (r.toAjar none)).cancelHeld e).notice .entrance 8 .alarm [p8 (e.val + 1), p8 r.state.code]

/-- An AJAR entrance queues ENTRANCE_AJAR (R120). -/
def State.ajarNotice (s : State) (e : Entrance) : State :=
  if (s.entrance e).state = .ajar then s.notice .entrance 1 .warn [p8 (e.val + 1)] else s

/-- Entry to RUN from LOADING (R120): each AJAR entrance queues ENTRANCE_AJAR. -/
def State.entrancesToRun (s : State) : State := [0, 1, 2, 3].foldl State.ajarNotice s

end Sys2Proof.Machine
end

