-- ==== Sys2Proof/Machine/Locate.lean ====
section
/-! DEFINITION. Finding the car (R16 to R19), the arrival of a record and whom it serves (R3, R4, R6, R7, R22),
invalidation (R20). -/

namespace Sys2Proof.Machine

/-! ### Bytes to memory words (R24) -/

/-- Bytes packed into words, the first byte lowest; a last word that is not full has zeros above (R24). -/
def packWords : List Byte → List Word
  | [] => []
  | [a] => [wordOf a.toNat]
  | [a, b] => [wordOf (a.toNat + 256 * b.toNat)]
  | [a, b, c] => [wordOf (a.toNat + 256 * b.toNat + 65536 * c.toNat)]
  | a :: b :: c :: d :: rest =>
    wordOf (a.toNat + 256 * b.toNat + 65536 * c.toNat + 16777216 * d.toNat) :: packWords rest

/-- Word writes at rising addresses from a buffer, with what each brings about. -/
def wordWrites (eff : WriteEffect) (buffer : Nat) (ws : List Word) : List QEntry :=
  ws.mapIdx fun i w => .write (addrOf (buffer + 4 * i)) w eff

/-- Word writes that bring about nothing more. -/
def bufferWrites (buffer : Nat) (ws : List Word) : List QEntry := wordWrites .plain buffer ws

/-! ### The walk (R16) -/

/-- The walk fails (R16): PROFILE_GAP with the position, the track and the reason; the pending movement count becomes
inactive (R72). -/
def State.walkFail (s : State) (pos : Nat) (t : Track) (r : Reason) : State :=
  ({ s with
    prof := { s.prof with walk := none }
    motion := { s.motion with pendingCount := none } }).notice .profile 3 .warn [p32 pos, p8 (trackCode (some t)), p8 r.code]

/-- The walk succeeds with a segment (R16, R72). -/
def State.walkDone (s : State) (pos : Nat) (t : Track) (n : Nat) (r : Segment) : State :=
  State.placeCar { s with prof := ({ s.prof with walk := none, refSeg := some n }).enterLoop (some r.track) } pos t .provisional

/-- The branch a walk takes at a split: the alternate for LOOP_B, else the next link (R16). -/
def walkChoice (t : Track) : LoopSel := if t = .loopB then .loopB else .loopA

/-- The walk from a segment, `steps` links after segment 0; `got` is a record a fill has just brought (R16). -/
def State.walkRun : Nat → (pos : Nat) → (t : Track) → (cur steps : Nat) → Option Segment → State → State
  | 0, pos, t, _, _, _, s => s.walkFail pos t .stepLimit
  | k + 1, pos, t, cur, steps, got, s =>
    match got.or (s.prof.recordOf cur) with
    | none =>
      if s.congested cur then s.walkFail pos t .congestion
      else ({ s with prof := { s.prof with walk := some ⟨pos, t, cur, steps⟩ } }).askFill cur
    | some r =>
      let s := if got.isNone then { s with prof := s.prof.touch cur } else s
      if r.holds pos then
        if r.track = t then s.walkDone pos t cur r else s.walkFail pos t .wrongTrack
      else
        match r.follow (if r.stop ≤ pos then .up else .down) (walkChoice t) with
        | .lineEnd => s.walkFail pos t .lineEnd
        | .undecided => s.walkFail pos t .lineEnd
        | .seg m _ => if 64 ≤ steps then s.walkFail pos t .stepLimit else State.walkRun k pos t m (steps + 1) none s

/-- An anchor starts a walk from segment 0; it ends a running walk or search (R16, R17, R71). -/
def State.startWalk (s : State) (pos : Nat) (t : Track) : State :=
  State.walkRun 66 pos t 0 0 none { s with
    prof := { s.prof with walk := none, search := none }
    motion := { s.motion with pendingCount := some 0 } }

/-! ### The marker search (R18, R19) -/

/-- The search ends without a result (R19). -/
def State.searchFail (s : State) (code : Nat) : State :=
  ({ s with
    prof := { s.prof with search := none }
    motion := { s.motion with pendingCount := none } }).notice .profile 4 .info [p16 code]

/-- The search meets the code (R19, R71). -/
def State.searchDone (s : State) (n : Nat) (r : Segment) (x : Nat) : State :=
  State.placeCar { s with prof := ({ s.prof with search := none, refSeg := some n }).enterLoop (some r.track) }
    ((x : Int) + Cfg.readerOffset s.cfg) r.track .confirmed

/-- The search from segment number `n` onward; `got` is a record a fill has just brought (R18). -/
def State.searchRun : Nat → (code n : Nat) → Option Segment → State → State
  | 0, code, _, _, s => s.searchFail code
  | k + 1, code, n, got, s =>
    if Cfg.segmentCount s.cfg ≤ n then s.searchFail code
    else
      match got.or (s.prof.recordOf n) with
      | none =>
        if s.congested n then State.searchRun k code (n + 1) none (s.congestionNotice n)
        else ({ s with prof := { s.prof with search := some ⟨code, n⟩ } }).askFill n
      | some r =>
        let s := if got.isNone then { s with prof := s.prof.touch n } else s
        match r.markerPos code with
        | some x => s.searchDone n r x
        | none => State.searchRun k code (n + 1) none s

/-- A marker event starts a search (R18, R71). -/
def State.startSearch (s : State) (code : Nat) : State :=
  State.searchRun 1026 code 0 none { s with motion := { s.motion with pendingCount := some 0 } }

/-- A marker event in UNKNOWN (R17, R18, R68). -/
def State.markerUnknown (s : State) (code : Nat) : State :=
  if s.prof.walk.isSome ∨ s.prof.search.isSome then s.notice .profile 5 .info [p16 code] else s.startSearch code

/-- A marker event (R68). -/
def State.markerEvent (s : State) (code : Nat) : State :=
  if code = 0 then s.notice .motion 3 .info []
  else if s.motion.posState = .unknown then s.markerUnknown code
  else s.markerKnown code

/-! ### PROFILE_READ (R22) -/

/-- The record is in hand: its bytes go to the buffer and the slot completes; an abandoned read writes nothing. -/
def State.finishRead (s : State) (q : ProfileRead) (bytes : List Byte) (source : Nat) (reason : Option Reason) : State :=
  if q.abandoned then s
  else
    (s.handEach (wordWrites (.recordWord q.slot) q.buffer (packWords bytes))).complete q.slot (if reason.isSome then .failed else .ok)
      ([wordOf source] ++ (reason.map fun r => wordOf r.code).toList)

/-- PROFILE_READ is handed over (R22). -/
def State.profileRead (s : State) (m : WindowMap) (k : Slot) (r : SlotRec) : State :=
  let n := r.operandNat 1
  let buffer := r.operandNat 2
  let len := r.operandNat 3
  if Cfg.segmentCount s.cfg ≤ n then s.complete k .badOperand []
  else if len < 32 ∨ bufferPasses m buffer len = false then s.complete k .badBuffer []
  else
    match s.prof.lineOf n with
    | some l => State.finishRead { s with prof := s.prof.touch n } ⟨k, r.goOrder, n, buffer, false⟩ l.bytes 0 none
    | none =>
      let q : ProfileRead := ⟨k, r.goOrder, n, buffer, false⟩
      ({ s with prof := { s.prof with reads := s.prof.reads ++ [q] } }).askRead n

/-! ### The arrival of a record (R3, R4, R7) -/

/-- What becomes of the 32 bytes of a fill. -/
inductive Arrival where
  | discarded
  | bad (r : Reason)
  | placed (r : Segment)
  | unplaced (r : Segment)
  deriving DecidableEq, Repr

/-- Queue PROFILE_RECORD_BAD (R3, R4). -/
def State.recordBad (s : State) (n : Nat) (r : Reason) (other : Option Nat) : State :=
  s.notice .profile 1 .warn ([p16 n, p8 r.code] ++ (other.map p16).toList)

/-- The record is checked alone (R3), then against its neighbours (R4), then placed (R7); one whose fill congestion let
be carried out for a read alone is not placed (R22). -/
def State.receiveRecord (s : State) (n : Nat) (discard uncached : Bool) (bytes : List Byte) : Arrival × State :=
  if discard then (.discarded, s)
  else
    match recordReason bytes n (Cfg.segmentCount s.cfg) with
    | some r => (.bad r, s.recordBad n r none)
    | none =>
      let rec_ := Segment.ofBytes bytes
      match s.prof.discontinuous rec_ with
      | some other => (.bad .continuity, s.recordBad n .continuity (some other))
      | none =>
        if uncached then (.unplaced rec_, s)
        else
          match s.prof.place n bytes with
          | some p => (.placed rec_, { s with prof := p })
          | none => (.unplaced rec_, s)

/-- The window entry of a segment stands FILLING. -/
def ProfileUnit.isFilling (p : ProfileUnit) (n : Nat) : Bool :=
  p.window.any fun e => e.seg == n && decide (e.state = .filling)

/-- A window entry waiting for the record is served (R3, R7, R8). -/
def State.serveWindow (s : State) (n : Nat) (a : Arrival) : State :=
  if s.prof.isFilling n then
    match a with
    | .discarded => s.seekAgain n
    | .bad _ => s.setEntry n .bad none
    | .placed r => ({ s with prof := s.prof.setPin n true }).setEntry n .present (some r.track)
    | .unplaced r => (s.setEntry n .unavailable (some r.track)).congestionNotice n
  else s

/-- After the record of an entry has arrived: the car is found anew, the entries it shows to be left are removed at both
ends (log 17), and the window goes on from its first entry, and from its last where the record is the last entry's or moves
the front into another segment (R10). That room made at the rear of a full window does not extend it at once, where neither
holds, is the model's choice (log 17). -/
def State.windowGrows (s : State) (n : Nat) : State :=
  let last := decide (s.prof.window.getLast?.map Entry.seg = some n)
  let left := State.leaveRear 14 s.relocate
  let head := fun (t : State) => t.prof.window.head?.map Entry.seg
  let t := if head s = some n ∨ head left ≠ head s then (State.followRear 14 left).relocate else left
  if t.sup.direction = .none then t.farFollows
  else if last ∨ t.prof.front ≠ s.prof.front then t.extendAhead
  else t

/-- A rebuild waiting for the record goes on (R12). -/
def State.serveRebuild (s : State) (n : Nat) (a : Arrival) : State :=
  match s.prof.rebuild with
  | none => s
  | some steps =>
    if s.prof.refSeg ≠ some n then s
    else
      let t := { s with prof := { s.prof with rebuild := none } }
      match a with
      | .discarded => State.rebuildRun 66 steps none t
      | .bad _ => t.rebuildGap .recordBad
      | .placed r => State.rebuildRun 66 steps (some r) t
      | .unplaced r => State.rebuildRun 66 steps (some r) t

/-- A walk waiting for the record goes on (R16). -/
def State.serveWalk (s : State) (n : Nat) (a : Arrival) : State :=
  match s.prof.walk with
  | none => s
  | some w =>
    if w.cur ≠ n then s
    else
      match a with
      | .discarded => State.walkRun 66 w.pos w.track w.cur w.steps none s
      | .bad _ => s.walkFail w.pos w.track .recordBad
      | .placed r => State.walkRun 66 w.pos w.track w.cur w.steps (some r) s
      | .unplaced r => State.walkRun 66 w.pos w.track w.cur w.steps (some r) s

/-- A marker search waiting for the record goes on (R18). -/
def State.serveSearch (s : State) (n : Nat) (a : Arrival) : State :=
  match s.prof.search with
  | none => s
  | some q =>
    if q.next ≠ n then s
    else
      match a with
      | .discarded => State.searchRun 1026 q.code n none s
      | .bad _ => State.searchRun 1026 q.code (n + 1) none s
      | .placed r => State.searchRun 1026 q.code n (some r) s
      | .unplaced r => State.searchRun 1026 q.code n (some r) s

/-- The reads waiting for the record are served (R22). -/
def State.serveReads (s : State) (n : Nat) (a : Arrival) (bytes : List Byte) : State :=
  let mine := s.prof.reads.filter fun q => q.seg == n
  if mine.isEmpty then s
  else
    let t := { s with prof := { s.prof with reads := s.prof.reads.filter fun q => !(q.seg == n) } }
    match a with
    | .discarded =>
      let live := mine.filter fun q => !q.abandoned
      if live.isEmpty then t
      else ({ t with prof := { t.prof with reads := t.prof.reads ++ live } }).askRead n
    | .bad r => mine.foldl (fun u q => u.finishRead q bytes 3 (some r)) t
    | .placed _ => mine.foldl (fun u q => u.finishRead q bytes 1 none) t
    | .unplaced _ => mine.foldl (fun u q => u.finishRead q bytes 2 none) t

/-- The 32 bytes of a fill arrive (R3 to R7): checked, placed, and handed to the requesters it still has. -/
def State.fillArrived (s : State) (n : Nat) (discard uncached : Bool) (bytes : List Byte) : State :=
  let r := s.receiveRecord n discard uncached bytes
  let was := r.2.prof.isFilling n
  let t := r.2.serveWindow n r.1
  let t := if was && !t.prof.isFilling n then t.windowGrows n else t
  let t := State.syncMotion s (t.serveRebuild n r.1)
  ((t.serveWalk n r.1).serveSearch n r.1).serveReads n r.1 bytes

/-! ### Invalidation (R20) -/

/-- Invalidate the valid lines of the named segments; the ages are left as they stand. -/
def ProfileUnit.dropLines (p : ProfileUnit) (named : Nat → Bool) : ProfileUnit :=
  { p with cache := p.cache.map fun ls => ls.map fun l =>
      if l.valid && named l.tag then { l with valid := false, pinned := false } else l }

/-- How many lines are valid and named. -/
def ProfileUnit.namedLines (p : ProfileUnit) (named : Nat → Bool) : List CacheLine :=
  p.validLines.filter fun l => named l.tag

/-- A fill in flight for a named segment is marked for discard. -/
def RfcUnit.markDiscard (r : RfcUnit) (named : Nat → Bool) : RfcUnit :=
  match r.inFlight with
  | some (.fill n d) => { r with inFlight := some (.fill n (d || named n)) }
  | _ => r

/-- An invalidation of a set of segments (R20): the state after it and the number of lines that became invalid. -/
def State.invalidate (s : State) (named : Nat → Bool) : State × Nat :=
  let lines := s.prof.namedLines named
  let entries := s.prof.window.filter fun e => named e.seg
  let t := { s with prof := s.prof.dropLines named, rfc := s.rfc.markDiscard named }
  let t := entries.foldl (fun t e => t.setEntry e.seg .filling none) t
  let t := entries.foldl (fun t e => t.seekAgain e.seg) t
  (State.syncMotion s (t.retrySets fun k => lines.any fun l => l.tag % 16 == k), lines.length)

/-- PROFILE_INVALIDATE is handed over (R21). -/
def State.profileInvalidate (s : State) (k : Slot) (r : SlotRec) : State :=
  let n := r.operandNat 1
  if n = 0xFFFFFFFF then
    let t := s.invalidate fun _ => true
    t.1.complete k .ok [wordOf t.2]
  else if Cfg.segmentCount s.cfg ≤ n then s.complete k .badOperand []
  else
    let t := s.invalidate fun x => x == n
    t.1.complete k .ok [wordOf t.2]

end Sys2Proof.Machine
end

