-- ==== Sys2Proof/Machine/Flash.lean ====
section
/-! DEFINITION. The Route Flash Controller (chapter 2): the descriptors of its transactions, the arbiter over the link,
the flash service operations, the RFC at CCR. -/

namespace Sys2Proof.Machine

/-! ### Descriptors (R24, R25) -/

/-- The data place of a descriptor (R24). -/
inductive DataPlace where
  | lineBuffer
  | memoryBuffer
  | pageBuffer
  | statusByte
  | none
  deriving DecidableEq, Repr

/-- A transaction descriptor (R24). `clock` is what the internal clock is divided by. -/
structure Descriptor where
  command : Nat
  address : Option Nat
  dummy : Nat
  isRead : Bool
  count : Nat
  place : DataPlace
  clock : Nat
  deriving DecidableEq, Repr

/-- The flash address of a segment's record (R1). -/
def recordAddr (cfg : List Byte) (n : Nat) : Nat := Cfg.profileBase cfg + 32 * n

/-- The descriptor of a transaction (R25); `op` is the current flash operation. -/
def Txn.descriptor (t : Txn) (cfg : List Byte) (op : Option FlashOp) : Descriptor :=
  let d := Cfg.linkDivider cfg
  match t with
  | .configRead k => ⟨0x03, some (32 * k), 0, true, 32, .lineBuffer, 64⟩
  | .fill n _ => ⟨Cfg.readCommand cfg, some (recordAddr cfg n), Cfg.dummyBytes cfg, true, 32, .lineBuffer, d⟩
  | .serviceRead _ _ =>
    ⟨Cfg.readCommand cfg, op.map FlashOp.addr, Cfg.dummyBytes cfg, true, (op.map FlashOp.count).getD 0, .memoryBuffer, d⟩
  | .writeEnable => ⟨Cfg.enableCommand cfg, none, 0, false, 0, .none, d⟩
  | .program => ⟨Cfg.programCommand cfg, op.map FlashOp.addr, 0, false, (op.map FlashOp.count).getD 0, .pageBuffer, d⟩
  | .erase => ⟨Cfg.eraseCommand cfg, op.map FlashOp.addr, 0, false, 0, .none, d⟩
  | .statusPoll => ⟨Cfg.statusCommand cfg, none, 0, true, 1, .statusByte, d⟩

/-- The current flash operation. -/
def RfcUnit.currentOp (r : RfcUnit) : Option FlashOp :=
  match r.current with
  | some (.flash c) => some c.op
  | _ => none

/-- The descriptor on the link. -/
def State.descriptor (s : State) : Option Descriptor :=
  s.rfc.inFlight.map fun t => t.descriptor s.cfg s.rfc.currentOp

/-! ### The classes of waiting fills (R6, R23) -/

/-- The place in the window of the entry a fill serves; a rebuild's fill stands at place 0 (log 22). -/
def ProfileUnit.windowPlace (p : ProfileUnit) (n : Nat) : Option Nat :=
  match p.window.findIdx? fun e => e.seg == n && decide (e.state = .filling) with
  | some i => some i
  | none => if p.rebuild.isSome ∧ p.refSeg = some n then some 0 else none

/-- The walk or the marker search waits for a segment. -/
def ProfileUnit.located (p : ProfileUnit) (n : Nat) : Bool :=
  decide (p.walk.map Walk.cur = some n) || decide (p.search.map Search.next = some n)

/-- The lesser of two keys, of which one may be absent. -/
def minKey (a : Option Nat) (b : Nat) : Option Nat :=
  match a with
  | none => some b
  | some x => some (min x b)

/-- The go-acceptance order that keys the reads of a segment. -/
def ProfileUnit.readKey (p : ProfileUnit) (n : Nat) : Option Nat :=
  (p.reads.filter fun q => q.seg == n).foldl (fun k q => minKey k q.goOrder) none

/-- A fill is still wanted. -/
def ProfileUnit.wants (p : ProfileUnit) (n : Nat) : Bool :=
  (p.windowPlace n).isSome || p.located n || (p.readKey n).isSome

/-- The segment with the lowest key, the first of the list where two are equal. -/
def lowest (key : Nat → Option Nat) : List Nat → Option (Nat × Nat)
  | [] => none
  | n :: ns =>
    match key n, lowest key ns with
    | none, r => r
    | some k, none => some (k, n)
    | some k, some (j, m) => if j < k then some (j, m) else some (k, n)

/-- The WINDOW fill that stands earliest in the window (R26). -/
def State.windowFill (s : State) : Option Nat := (lowest s.prof.windowPlace s.rfc.fills).map Prod.snd

/-- The oldest LOCATE fill (R26). -/
def State.locateFill (s : State) : Option Nat :=
  s.rfc.fills.find? fun n => (s.prof.windowPlace n).isNone && s.prof.located n

/-- The key of a fill that stands in class SERVICE. -/
def ProfileUnit.serviceKey (p : ProfileUnit) (n : Nat) : Option Nat :=
  if (p.windowPlace n).isSome || p.located n then none else p.readKey n

/-- The oldest SERVICE fill with its key. -/
def State.serviceFill (s : State) : Option (Nat × Nat) := lowest s.prof.serviceKey s.rfc.fills

/-- The oldest flash operation of the list. -/
def oldestOp : List FlashOp → Option FlashOp
  | [] => none
  | o :: os =>
    match oldestOp os with
    | none => some o
    | some p => if p.goOrder < o.goOrder then some p else some o

/-! ### Becoming current (R27, R30) -/

/-- The detail of the first condition of R30 that fails. -/
def State.unsecured (s : State) : Option Reason :=
  if s.motion.standstill = false then some .moving
  else if s.rbc.state ≠ .applied then some .brake
  else if s.allSecured = false then some .entrance
  else if s.run.runState ≠ .run then some .runState
  else none

/-- How many words step 1 of a FLASH_PROGRAM reads (R31). -/
def FlashOp.words (o : FlashOp) : Nat := roundWord o.count / 4

/-- The read of word `i` of a FLASH_PROGRAM's buffer (R31). -/
def FlashOp.dataRead (o : FlashOp) (i : Nat) : QEntry := .read (addrOf (o.buffer + 4 * i)) (.programData o.goOrder i)

/-- A flash operation becomes current (R27, R30, R31). -/
def State.makeCurrent (s : State) (o : FlashOp) : State :=
  let s := { s with rfc := { s.rfc with items := s.rfc.items.filter fun x => decide (x ≠ o) } }
  let cur (st : FlashStep) : Option CurrentOp := some (.flash ⟨o, st, 0, 0, 0, 0, false⟩)
  match o.kind with
  | .read => { s with rfc := { s.rfc with current := cur .readReady } }
  | .program =>
    match s.unsecured with
    | some d => s.completeRefused o.slot .notSecured d.code
    | none =>
      ({ s with rfc := { s.rfc with
          current := cur (.dataReading 0)
          lockout := if s.rfc.activeFill then .waiting else .set } }).hand (.accesses [o.dataRead 0])
  | .erase =>
    match s.unsecured with
    | some d => s.completeRefused o.slot .notSecured d.code
    | none =>
      { s with rfc := { s.rfc with
          current := cur .enableReady
          lockout := if s.rfc.activeFill then .waiting else .set } }

/-- While no service operation is current, the oldest service item becomes current; a SERVICE fill does so as its
transaction starts (R27, log 22). -/
def State.promote : Nat → State → State
  | 0, s => s
  | k + 1, s =>
    if s.rfc.current.isSome then s
    else
      match oldestOp s.rfc.items with
      | none => s
      | some o =>
        match s.serviceFill with
        | none => State.promote k (s.makeCurrent o)
        | some (key, _) => if key < o.goOrder then s else State.promote k (s.makeCurrent o)

/-! ### The arbiter (R26) -/

/-- A FILL starts: it leaves the list, the active-fill flag is set. -/
def State.startFill (s : State) (n : Nat) : State :=
  { s with rfc := { s.rfc with
      fills := s.rfc.fills.filter fun m => !(m == n)
      inFlight := some (.fill n false)
      activeFill := true } }

/-- The current flash operation moves to a step. -/
def State.flashStep (s : State) (c : CurrentFlash) : State := { s with rfc := { s.rfc with current := some (.flash c) } }

/-- The current service operation's next transaction starts if it is ready (R28, R31, R32). -/
def State.startStep (s : State) (c : CurrentFlash) : State :=
  match c.step with
  | .readReady =>
    ({ s with rfc := { s.rfc with inFlight := some (.serviceRead 0 []) } }).flashStep { c with step := .readMoving }
  | .enableReady =>
    if s.rfc.lockout = .set then
      ({ s with rfc := { s.rfc with inFlight := some .writeEnable } }).flashStep { c with step := .enableMoving }
    else s
  | .pollReady =>
    ({ s with rfc := { s.rfc with inFlight := some .statusPoll } }).flashStep
      { c with step := .pollMoving, lastPoll := elapsed s.now c.ended, polls := c.polls + 1 }
  | _ => s

/-- Steps 1 and 2 of R26: with the link idle and the lockout CLEAR, the earliest WINDOW fill starts, else the oldest
LOCATE fill. -/
def State.chooseFill (s : State) : State :=
  if s.rfc.inFlight.isSome ∨ s.rfc.lockout ≠ .clear then s
  else
    match s.windowFill.or s.locateFill with
    | some n => s.startFill n
    | none => s

/-- Steps 3 and 4 of R26: with the link idle, the current service operation's next transaction starts if it is ready;
where none is current, the oldest SERVICE fill becomes current and starts. -/
def State.chooseService (s : State) : State :=
  if s.rfc.inFlight.isSome then s
  else
    match s.rfc.current with
    | some (.flash c) => s.startStep c
    | some (.serviceFill _) => s
    | none =>
      match s.serviceFill with
      | none => s
      | some (_, n) =>
        if s.rfc.lockout = .clear then
          let t := s.startFill n
          { t with rfc := { t.rfc with current := some (.serviceFill n) } }
        else s

/-- Fills that nobody wants any more are withdrawn while they wait (R6, R17). -/
def State.pruneFills (s : State) : State := { s with rfc := { s.rfc with fills := s.rfc.fills.filter s.prof.wants } }

/-- The RFC after an event: withdrawals, the waiting fills of steps 1 and 2 of R26, then the next current operation of
R27, which may set the lockout (R30), then steps 3 and 4 (log 22). -/
def State.rfcSettle (s : State) : State :=
  let s := s.pruneFills.chooseFill
  (State.promote (s.rfc.items.length + 1) s).chooseService

/-! ### The flash operations are handed over (R28, R29) -/

/-- Join the list as a service item. -/
def State.joinItems (s : State) (o : FlashOp) : State := { s with rfc := { s.rfc with items := s.rfc.items ++ [o] } }

/-- FLASH_READ (R28). -/
def State.flashReadOp (s : State) (m : WindowMap) (k : Slot) (r : SlotRec) : State :=
  let a := r.operandNat 1
  let n := r.operandNat 2
  let buffer := r.operandNat 3
  if n < 1 ∨ 256 < n ∨ 4194304 < a + n then s.complete k .badOperand []
  else if bufferPasses m buffer (roundWord n) = false then s.complete k .badBuffer []
  else s.joinItems ⟨.read, k, r.goOrder, a, n, buffer⟩

/-- FLASH_PROGRAM (R29). -/
def State.flashProgramOp (s : State) (m : WindowMap) (k : Slot) (r : SlotRec) : State :=
  let a := r.operandNat 1
  let n := r.operandNat 2
  let buffer := r.operandNat 3
  if n < 1 ∨ 256 < n ∨ 4194304 ≤ a ∨ 256 < a % 256 + n then s.complete k .badOperand []
  else if bufferPasses m buffer (roundWord n) = false then s.complete k .badBuffer []
  else s.joinItems ⟨.program, k, r.goOrder, a, n, buffer⟩

/-- FLASH_ERASE (R29). -/
def State.flashEraseOp (s : State) (k : Slot) (r : SlotRec) : State :=
  let a := r.operandNat 1
  if a % 4096 ≠ 0 ∨ 4194304 ≤ a then s.complete k .badOperand []
  else s.joinItems ⟨.erase, k, r.goOrder, a, 0, 0⟩

/-! ### The ends of transactions -/

/-- The transaction ends: select is released. -/
def State.linkFree (s : State) : State := { s with rfc := { s.rfc with inFlight := none } }

/-- A FILL ends (R25, R26, R30): the active-fill flag is cleared, a WAITING lockout becomes SET, a SERVICE fill stops
being current, the record is handed to the Profile Unit. -/
def State.fillEnds (s : State) (n : Nat) (discard : Bool) (data : List Byte) : State :=
  let bytes := takeBytes 32 data
  State.fillArrived { s with rfc := { s.rfc with
      inFlight := none
      uncached := s.rfc.uncached.filter fun m => !(m == n)
      activeFill := false
      lineBuffer := bytes
      lockout := if s.rfc.lockout = .waiting then .set else s.rfc.lockout
      current := match s.rfc.current with
        | some (.serviceFill _) => none
        | c => c } } n discard (s.rfc.uncached.contains n) bytes

/-- An entry is a word of a FLASH_READ's buffer. -/
def QEntry.isFlashWord (goOrder : Nat) : QEntry → Bool
  | .write _ _ (.flashWord g) => g == goOrder
  | _ => false

/-- A group is a word of a FLASH_READ's buffer. -/
def Group.isFlashWord (goOrder : Nat) : Group → Bool
  | .accesses [e] => e.isFlashWord goOrder
  | _ => false

/-- A word that a SERVICE_READ has handed is not yet taken by the insert queue: the link clock stands, with select held
(R24). -/
def State.clockStopped (s : State) (goOrder : Nat) : Bool :=
  s.path.waiters.any (Group.isFlashWord goOrder) || s.path.entering.any (QEntry.isFlashWord goOrder)

/-- How many bytes a SERVICE_READ moves before it next hands a word: to the end of the word, or of the count (R24). -/
def FlashOp.wordRoom (o : FlashOp) (moved : Nat) (part : List Byte) : Nat := min (4 - part.length) (o.count - moved)

/-- A SERVICE_READ has a word ready: four bytes, or the bytes that remain (R24). -/
def FlashOp.wordReady (o : FlashOp) (moved : Nat) (part : List Byte) : Bool :=
  !part.isEmpty && (decide (part.length = 4) || decide (moved = o.count))

/-- Bytes arrive on a SERVICE_READ, at most up to the end of a word; a word that is ready is handed to the insert queue
as a group of its own, at the buffer byte of its first byte (R24, log 29). -/
def State.serviceReadMoves (s : State) (o : FlashOp) (moved : Nat) (part data : List Byte) : State :=
  let got := data.take (o.wordRoom moved part)
  let all := part ++ got
  let n := moved + got.length
  let go (rest : List Byte) : State := { s with rfc := { s.rfc with inFlight := some (.serviceRead n rest) } }
  if o.wordReady n all then
    (go []).hand (.accesses [.write (addrOf (o.buffer + (n - all.length))) ((packWords all).headD 0) (.flashWord o.goOrder)])
  else go all

/-- A SERVICE_READ ends, its last word taken (R28): the slot completes OK with the count, and the operation ends. -/
def State.serviceReadEnds (s : State) (c : CurrentFlash) : State :=
  ({ s with rfc := { s.rfc with inFlight := none, current := none } }).complete c.op.slot .ok [wordOf c.op.count]

/-- Four bytes of the page buffer, at byte 4 × i, become those of a word (R31). -/
def pageWord (page : List Byte) (i : Nat) (w : Word) : List Byte :=
  page.take (4 * i) ++ (List.range 4).map (byteOfWord w) ++ page.drop (4 * i + 4)

/-- The word `i` of a program's data returns (R31): it joins the page buffer, and the next word is read. -/
def State.programWord (s : State) (goOrder i : Nat) (w : Word) : State :=
  match s.rfc.current with
  | some (.flash c) =>
    match c.step with
    | .dataReading n =>
      if c.op.goOrder = goOrder ∧ n = i then
        let t := ({ s with rfc := { s.rfc with
          pageBuffer := pageWord s.rfc.pageBuffer i w } }).flashStep { c with step := .dataReading (n + 1) }
        if n + 1 < c.op.words then t.hand (.accesses [c.op.dataRead (n + 1)]) else t
      else s
    | _ => s
  | _ => s

/-- The bytes a PROGRAM transaction sends (R31). -/
def State.programBytes (s : State) (c : CurrentFlash) : List Byte := s.rfc.pageBuffer.take c.op.count

/-- The poll limit in ms (R32). -/
def FlashKind.pollLimit : FlashKind → Nat
  | .read => 0
  | .program => 50
  | .erase => 2000

/-- The range of flash addresses a finished operation may have changed: first, and one past the last (R33). -/
def FlashOp.range (o : FlashOp) : Nat × Nat :=
  match o.kind with
  | .erase => (o.addr, o.addr + 4096)
  | .program => (o.addr, o.addr + o.count)
  | .read => (o.addr, o.addr)

/-- A segment's record shares a byte with a range (R20). -/
def recordInRange (cfg : List Byte) (range : Nat × Nat) (n : Nat) : Bool :=
  decide (recordAddr cfg n < range.2) && decide (range.1 < recordAddr cfg n + 32)

/-- The close of a program or erase, in the order of R33. -/
def State.closeFlash (s : State) (c : CurrentFlash) (code : ResultCode) : State :=
  let s := ({ s with rfc := { s.rfc with lockout := .clear } }).pruneFills.chooseFill
  let t := s.invalidate (recordInRange s.cfg c.op.range)
  let s := if c.suppressed then t.1 else
    t.1.complete c.op.slot code [wordOf c.lastPoll, wordOf c.polls, wordOf t.2]
  { s with rfc := { s.rfc with current := none } }

/-- A STATUS_POLL ends with a status byte (R32). -/
def State.pollEnds (s : State) (c : CurrentFlash) (status : Byte) : State :=
  let s := { s with rfc := { s.rfc with inFlight := none, statusByte := status } }
  let c' := { c with step := .pollWaiting, nextPoll := c.lastPoll + 1 }
  if status.getLsbD (Cfg.busyBit s.cfg) = false then (s.flashStep c').closeFlash c .ok
  else if c.op.kind.pollLimit < c.lastPoll + 1 then (s.flashStep c').closeFlash c .timeout
  else s.flashStep c'

/-! ### The RFC at CCR (R34) -/

/-- The current service operation at CCR: a SERVICE_READ is stopped, and the bytes of a word not yet full are lost. -/
def State.currentAtCcr (s : State) : State :=
  match s.rfc.current with
  | none => s
  | some (.serviceFill _) => s
  | some (.flash c) =>
    match c.step with
    | .readReady => { s with rfc := { s.rfc with current := none } }
    | .readMoving => { s with rfc := { s.rfc with current := none, inFlight := none } }
    | .dataReading _ => { s with rfc := { s.rfc with current := none, lockout := .clear } }
    | .enableReady => { s with rfc := { s.rfc with current := none, lockout := .clear } }
    | _ => s.flashStep { c with suppressed := true }

/-- The RFC takes CCR (R34): waiting flash operations are removed, the current one is dealt with by its step; fills
stay, and that of an abandoned PROFILE_READ completes into the cache by R7 (R22). -/
def State.rfcAtCcr (s : State) : State :=
  State.currentAtCcr { s with
    rfc := { s.rfc with items := [], uncached := [] }
    prof := { s.prof with reads := s.prof.reads.map fun q => { q with abandoned := true } } }

end Sys2Proof.Machine
end

