-- ==== Sys2Proof/Machine/Evaluate.lean ====
section
/-! DEFINITION. How an event ends (R86): the in-shadow judgement (R152), the Supervisor's evaluation with the apply
order it may hand (R88, R109), the release judgement (R123), the RFC's next choice (R26). -/

namespace Sys2Proof.Machine

/-! ### Evaluation (R86, R95) -/

/-- An evaluation and what it hands on: the claim forms the service brake output; an entry to TRIP hands the apply
order, and a changed rack brake state brings a second evaluation (R86, R88, R109, R112). -/
def State.evaluate (s : State) (causes : List Cause) : State :=
  let t := (s.evaluateOnce causes).formServiceOutput
  if t.sup.state = .trip ∧ s.sup.state ≠ .trip then
    let u := t.applyOrder
    if u.rbc.state = t.rbc.state then u else (u.evaluateOnce []).formServiceOutput
  else t

/-- The inputs whose change brings an evaluation (R86). -/
structure SupInputs where
  position : Nat
  posState : PosState
  track : Option Track
  speed : Nat
  standstill : Bool
  window : List Entry
  endKind : EndKind
  front : Option Nat
  rearUnresolved : Bool
  authority : Option Authority
  restrictions : List Restriction
  overfull : Bool
  radio : RadioState
  brake : BrakeState
  deriving DecidableEq, Repr

def State.supInputs (s : State) : SupInputs where
  position := s.motion.position
  posState := s.motion.posState
  track := s.motion.track
  speed := s.motion.speed
  standstill := s.motion.standstill
  window := s.prof.window
  endKind := s.prof.endKind
  front := s.prof.front
  rearUnresolved := s.prof.rearUnresolved
  authority := s.vlu.authority
  restrictions := s.vlu.restrictions
  overfull := s.vlu.overfull
  radio := s.vlu.radio
  brake := s.rbc.state

/-- The inputs whose change has the release flags judged afresh (R123). -/
structure ReleaseInputs where
  standstill : Bool
  brake : BrakeState
  runState : RunState
  position : Nat
  posState : PosState
  window : List Entry
  endKind : EndKind
  front : Option Nat
  permit : Option Permit
  direction : Dir
  deriving DecidableEq, Repr

def State.releaseInputs (s : State) : ReleaseInputs where
  standstill := s.motion.standstill
  brake := s.rbc.state
  runState := s.run.runState
  position := s.motion.position
  posState := s.motion.posState
  window := s.prof.window
  endKind := s.prof.endKind
  front := s.prof.front
  permit := s.vlu.permit
  direction := s.sup.direction

/-! ### Radio shadow (R152) -/

/-- The link-loss timer from full; in STABLED it stays stopped (R152, R154). -/
def State.linkLossFull (s : State) : Option Time :=
  if s.run.runState = .stabled then none else some (later s.now (1000 * Cfg.linkLossTime s.cfg))

/-- The shadow timer loaded with an allowance in s; in STABLED it is held frozen (R152, R154). -/
def State.shadowLoaded (s : State) (allowance seg : Nat) : ShadowTimer :=
  if s.run.runState = .stabled then .frozen (1000 * allowance) seg else .active (later s.now (1000 * allowance)) seg

/-- The front enters a shadow segment (R152). -/
def State.entersShadow (s : State) (allowance seg : Nat) : State :=
  let load := s.shadowLoaded allowance seg
  match s.vlu.radio with
  | .notHeard => s
  | .up => { s with vlu := { s.vlu with radio := .shadowed, linkLoss := none, shadow := load } }
  | .shadowed => { s with vlu := { s.vlu with shadow := load } }
  | .lost =>
    ({ s with vlu := { s.vlu with radio := .shadowed, linkLoss := none, shadow := load } }).notice .valley 11 .info []

/-- The front enters a segment not in shadow (R152). -/
def State.leavesShadow (s : State) : State :=
  match s.vlu.radio with
  | .shadowed => { s with vlu := { s.vlu with radio := .up, shadow := .inactive, linkLoss := s.linkLossFull } }
  | _ => s

/-- The in-shadow judgement is made when the front segment is PRESENT and it or its SHADOW flag has changed since the
last judgement (R152). A front that leaves the judged segment for one that is not PRESENT and returns to it has entered
no segment anew: that is the model's choice (log 46). -/
def State.judgeShadow (s : State) : State :=
  match s.prof.front, s.prof.frontRec with
  | some n, some r =>
    if s.vlu.judgedFront = some n ∧ s.vlu.inShadow = r.shadow then s
    else
      let t := { s with vlu := { s.vlu with judgedFront := some n, inShadow := r.shadow } }
      if r.shadow then t.entersShadow r.allowance n else t.leavesShadow
  | _, _ => s

/-! ### The end of an event -/

/-- What the units do at the end of an event: `before` is the state the event found, `causes` the trip causes raised
in it, `force` an event that brings an evaluation by itself (R86, R123). Outside RUN and STABLED nothing is done. -/
def State.react (s before : State) (causes : List Cause) (force : Bool) : State :=
  if s.inService then
    let s := s.judgeShadow
    let s := if force ∨ causes ≠ [] ∨ s.supInputs ≠ before.supInputs then s.evaluate causes else s
    let s := if s.releaseInputs ≠ before.releaseInputs then s.judgeRelease else s
    s.rfcSettle
  else s

end Sys2Proof.Machine
end

