-- ==== Sys2Proof/Machine/Scan.lean ====
section
/-! DEFINITION. The Analog Scan Unit (chapter 3): scans, the converter's arbiter, check references, the measurement
state, limit windows, MEASURE. -/

namespace Sys2Proof.Machine

/-- The field channels in scan order (R48). -/
def fieldSources : List Source := [.pa, .pb, .ps, .ph, .inc, .vs]

/-- Trust in a measurement state: QUALIFYING or VALID. -/
def MeasState.trusted : MeasState → Bool
  | .notChecked => false
  | .qualifying => true
  | .valid => true
  | .fault => false

/-- A scan begins as a check scan (R50). -/
def ScanUnit.isCheck (u : ScanUnit) : Bool :=
  decide (u.checkDue = 0) || decide (u.meas = .notChecked) || decide (u.meas = .fault)

/-- A scan begins: a check scan or a plain scan (R50). -/
def ScanUnit.begin_ (u : ScanUnit) : ScanUnit :=
  if u.isCheck then { u with list := [.cr1, .cr2] ++ fieldSources, checkDue := 1, cr1Passed := false }
  else { u with list := fieldSources, checkDue := if u.checkDue + 1 = 100 then 0 else u.checkDue + 1 }

/-- A source that is a check reference. -/
def Source.isCheck : Source → Bool
  | .cr1 => true
  | .cr2 => true
  | _ => false

/-- The oldest entry of the spot-request list by go acceptance (R51). -/
def State.oldestSpot (s : State) : List Spot → Option Spot
  | [] => none
  | x :: xs =>
    match s.oldestSpot xs with
    | none => some x
    | some y => if (s.path.slots.get y.slot).goOrder < (s.path.slots.get x.slot).goOrder then some y else some x

/-- The head of the scan list goes on the converter. -/
def State.convertScan (s : State) (c : Source) : State :=
  { s with scan := { s.scan with list := s.scan.list.tail, conv := some ⟨c, .scanList⟩ } }

/-- The converter's arbiter (R51): check references, then the oldest spot request, then the rest of the scan. -/
def State.nextConversion (s : State) : State :=
  if s.scan.conv.isSome then s
  else
    match s.scan.list.head?, s.oldestSpot s.scan.spots with
    | some c, spot =>
      if c.isCheck then s.convertScan c
      else
        match spot with
        | some x => { s with scan := { s.scan with conv := some ⟨x.source, .spot x.slot⟩ } }
        | none => s.convertScan c
    | none, some x => { s with scan := { s.scan with conv := some ⟨x.source, .spot x.slot⟩ } }
    | none, none => s

/-- The scan state becomes RUNNING and the first scan starts at once (R50, R53, R57). -/
def State.startScanning (s : State) : State :=
  State.nextConversion { s with
    scan := ({ s.scan with running := true, meas := .notChecked, checkDue := 0, started := s.now }).begin_ }

/-- A scan period has passed and the present scan has ended (R50). -/
def State.scanDue (s : State) : Bool :=
  s.scan.running && decide (Cfg.scanPeriod s.cfg ≤ elapsed s.now s.scan.started) && s.scan.list.isEmpty
    && (match s.scan.conv with
        | some ⟨_, .scanList⟩ => false
        | _ => true)

/-- The next scan starts (R50). -/
def State.startScan (s : State) : State :=
  State.nextConversion { s with
    scan := ({ s.scan with started := later s.scan.started (Cfg.scanPeriod s.cfg) }).begin_ }

/-! ### Values (R49) -/

/-- The value of a code: scaled for a field channel, the code itself for a check reference (R49). -/
def sourceValue (cfg : List Byte) (c : Source) (code : Nat) : Int :=
  match c with
  | .cr1 => code
  | .cr2 => code
  | c => Cfg.scaled cfg c.code code

/-! ### Check references (R52, R53) -/

/-- A check reference passes (R52). -/
def checkPasses (c : Source) (code : Nat) : Bool :=
  match c with
  | .cr1 => decide (803 ≤ code) && decide (code ≤ 835)
  | .cr2 => decide (3212 ≤ code) && decide (code ≤ 3342)
  | _ => false

/-- The check has passed (R53). -/
def ScanUnit.checkPassed (u : ScanUnit) : ScanUnit :=
  match u.meas with
  | .notChecked => { u with meas := .qualifying, recovery := false }
  | .fault => { u with meas := .qualifying, recovery := true }
  | .valid => u
  | .qualifying => u

/-- A check reference of the scan is judged (R52, R53): the causes raised and the state. R181 lists no width for the raw
code of MEASUREMENT_FAULT; 16 bits behind the 8 of the reference are the model's choice (log 16). -/
def State.judgeCheck (s : State) (c : Source) (code : Nat) : List Cause × State :=
  if checkPasses c code then
    if c = .cr1 then ([], { s with scan := { s.scan with cr1Passed := true } })
    else if s.scan.cr1Passed then ([], { s with scan := s.scan.checkPassed })
    else ([], s)
  else
    ([.measurementFault],
      ({ s with scan := { s.scan with meas := .fault, cr1Passed := s.scan.cr1Passed && decide (c ≠ Source.cr1) } }).notice .scan 1 .alarm
        [p8 c.code, p16 code])

/-! ### Limit windows (R55) -/

/-- The new state of a limit window (R55). -/
def limitState (st : LimitState) (x lo hi hys : Int) : LimitState :=
  match st with
  | .normal => if x < lo then .low else if hi < x then .high else .normal
  | .low => if hi < x then .high else if lo + hys ≤ x then .normal else .low
  | .high => if x < lo then .low else if x ≤ hi - hys then .normal else .high

/-- The severity of LIMIT_WINDOW (R55). -/
def limitSeverity (c : Source) (st : LimitState) : Severity :=
  match st with
  | .normal => .info
  | .high => .warn
  | .low => if c = .vs then .alarm else .warn

/-- Queue LIMIT_WINDOW at a change (R55). -/
def State.limitNotice (s : State) (c : Source) (old new : LimitState) (x : Int) : State :=
  if new = old then s else s.notice .scan 3 (limitSeverity c new) [p8 c.code, p8 new.code, p16s x]

/-- A trusted PH value (R55). -/
def State.phValue (s : State) (x : Int) : State :=
  let new := limitState s.scan.phWindow x (Cfg.phLow s.cfg) (Cfg.phHigh s.cfg) (Cfg.phHysteresis s.cfg)
  State.limitNotice { s with scan := { s.scan with phWindow := new } } .ph s.scan.phWindow new x

/-- A trusted VS value (R55): entry to LOW raises SUPPLY_LOW. -/
def State.vsValue (s : State) (x : Int) : List Cause × State :=
  let new := limitState s.scan.vsWindow x (Cfg.vsLow s.cfg) (Cfg.vsHigh s.cfg) (Cfg.vsHysteresis s.cfg)
  (if new = .low ∧ s.scan.vsWindow ≠ .low then [.supplyLow] else [],
    State.limitNotice { s with scan := { s.scan with vsWindow := new } } .vs s.scan.vsWindow new x)

/-- The scan ends with its VS conversion: QUALIFYING becomes VALID, with MEASUREMENT_VALID after a recovery (R53). -/
def State.scanEnds (s : State) : State :=
  if s.scan.meas = .qualifying then
    let t := { s with scan := { s.scan with meas := .valid, recovery := false } }
    if s.scan.recovery then t.notice .scan 2 .info [] else t
  else s

/-- The value of a field channel is handed to its reader with the measurement state (R54). -/
def State.handValue (s : State) (c : Source) (x : Int) : List Cause × State :=
  let trusted := s.scan.meas.trusted
  match c with
  | .pa => ([], if trusted then s.pressureReading .a x else s)
  | .pb => ([], if trusted then s.pressureReading .b x else s)
  | .ps => ([], if trusted then s.serviceReading x else s)
  | .ph => ([], if trusted then s.phValue x else s)
  | .inc => ([], s.inclineReading x trusted)
  | .vs =>
    let r := if trusted then s.vsValue x else ([], s)
    (r.1, r.2.scanEnds)
  | .cr1 => ([], s)
  | .cr2 => ([], s)

/-- A scan-list conversion of a field channel ends (R54). -/
def State.fieldValue (s : State) (c : Source) (x : Int) : List Cause × State :=
  State.handValue { s with scan := { s.scan with last := s.scan.last.set c ⟨x, some s.now⟩ } } c x

/-! ### MEASURE (R56) -/

/-- The result words of an entry (R56, 11.3). -/
def Spot.results (x : Spot) (m : MeasState) : List Word :=
  [wordOf x.made, wordOfInt (x.sum / (x.made : Int)), wordOfInt x.low, wordOfInt x.high, wordOf x.lastCode, wordOf m.code]

/-- A conversion is added to an entry (R56). -/
def Spot.add (x : Spot) (v : Int) (code : Nat) : Spot :=
  { x with
    remaining := x.remaining - 1
    made := x.made + 1
    sum := x.sum + v
    low := if x.made = 0 then v else min x.low v
    high := if x.made = 0 then v else max x.high v
    lastCode := code }

/-- An entry is done: it leaves the list and its slot completes OK (R56). -/
def State.finishSpot (s : State) (x : Spot) : State :=
  ({ s with scan := { s.scan with spots := s.scan.spots.filter fun y => decide (y.slot ≠ x.slot) } }).complete x.slot .ok
    (x.results s.scan.meas)

/-- A spot conversion ends (R56). -/
def State.spotValue (s : State) (slot : Slot) (v : Int) (code : Nat) : State :=
  match s.scan.spots.find? fun x => decide (x.slot = slot) with
  | none => s
  | some x =>
    let y := x.add v code
    if y.remaining = 0 then s.finishSpot y
    else { s with scan := { s.scan with spots := s.scan.spots.map fun z => if z.slot = slot then y else z } }

/-- MEASURE is handed over (R56); in STABLED it makes one conversion. -/
def State.measure (s : State) (k : Slot) (r : SlotRec) : State :=
  match Source.ofCode (r.operandNat 1) with
  | none => s.complete k .badOperand []
  | some c =>
    let n := r.operandNat 2
    if n < 1 ∨ 16 < n then s.complete k .badOperand []
    else
      State.nextConversion { s with scan := { s.scan with
        spots := s.scan.spots ++ [⟨k, c, if s.run.runState = .stabled then 1 else n, 0, 0, 0, 0, 0⟩] } }

/-- The end of the conversion in progress (R51 to R56): the causes raised and the state, with the next conversion
chosen. -/
def State.conversionEnds (s : State) (c : Conversion) (code : Nat) : List Cause × State :=
  let s := { s with scan := { s.scan with conv := none } }
  let v := sourceValue s.cfg c.source code
  let r : List Cause × State :=
    match c.purpose with
    | .scanList => if c.source.isCheck then s.judgeCheck c.source code else s.fieldValue c.source v
    | .spot k => ([], s.spotValue k v code)
    | .discarded => ([], s)
  (r.1, r.2.nextConversion)

/-! ### Run states and CCR (R57) -/

/-- A conversion in progress becomes one whose result is discarded. -/
def Conversion.discard (c : Conversion) : Conversion := { c with purpose := .discarded }

/-- The conversion in progress after the scan stops or spots are removed: `keep` says which purposes stand. -/
def discardConv (keep : ConvPurpose → Bool) (c : Option Conversion) : Option Conversion :=
  c.map fun x => if keep x.purpose then x else x.discard

/-- The entries that stay at the entry to STABLED: at most one conversion made so far (R57, log 24). -/
def Spot.stays (x : Spot) : Bool := decide (x.made ≤ 1)

/-- One conversion is left to make. -/
def Spot.oneMore (x : Spot) : Spot := { x with remaining := 1 }

/-- Entry to STABLED (R57). -/
def State.scanToStabled (s : State) : State :=
  let done := s.scan.spots.filter fun x => !x.stays
  let stay := s.scan.spots.filter Spot.stays
  let keep : ConvPurpose → Bool := fun p =>
    match p with
    | .spot k => stay.any fun x => decide (x.slot = k)
    | _ => false
  let t := { s with scan := { s.scan with
    running := false, list := [], meas := .notChecked
    spots := stay.map Spot.oneMore
    conv := discardConv keep s.scan.conv } }
  (done.foldl (fun u x => u.complete x.slot .ok (x.results .notChecked)) t).nextConversion

/-- CCR removes every spot request (R57). -/
def State.scanAtCcr (s : State) : State :=
  { s with scan := { s.scan with
      spots := []
      conv := discardConv (fun p => decide (p = .scanList)) s.scan.conv } }

end Sys2Proof.Machine
end

