-- ==== Sys2Proof/Machine/Valley.lean ====
section
/-! DEFINITION. The Valley Link Unit (chapter 8): the link and its arbiter, the checks on a frame and the records it
changes, receipts, sending, the OUTBOUND ring, run states and CCR. -/

namespace Sys2Proof.Machine

/-! ### Frames (R143, 11.6) -/

/-- A frame's contents. -/
inductive Frame where
  | authority (way : Way) (limit : Nat) (choice : LoopSel) (validity : Nat) (anchor : Option (Nat × Track))
  | restrictionSet (r : Restriction)
  | restrictionLift (ident : Nat)
  | stopOrder
  | stopRelease
  | permit (side : Option Side) (first last validity : Nat)
  | heartbeat
  | text
  deriving DecidableEq, Repr

/-- Unit `i` of a frame. -/
def unitAt (us : List Half) (i : Nat) : Half := us.getD i 0

/-- The kind field of unit 0. -/
def frameKind (us : List Half) : Nat := (unitAt us 0).toNat / 256

/-- The sequence field of unit 1. -/
def frameSeq (us : List Half) : Nat := (unitAt us 1).toNat % 256

/-- The car number field of unit 1. -/
def frameCar (us : List Half) : Nat := (unitAt us 1).toNat / 256

/-- The lengths 11.6 allows for a kind. -/
def kindLength (k : InboundKind) (n : Nat) : Bool :=
  match k with
  | .authority => n == 8 || n == 11
  | .restrictionSet => n == 10
  | .restrictionLift => n == 4
  | .stopOrder => n == 4
  | .stopRelease => n == 4
  | .entrancePermit => n == 9
  | .heartbeat => n == 4
  | .text => decide (4 ≤ n) && decide (n ≤ 28)

/-- Check 2 of R143: the kind, with the length field equal to the units received and allowed for the kind. -/
def frameForm (us : List Half) : Option InboundKind :=
  match InboundKind.ofCode (frameKind us) with
  | none => none
  | some k => if (unitAt us 0).toNat % 256 = us.length ∧ kindLength k us.length then some k else none

/-- The number in unit `i`. -/
def digitsAt (us : List Half) (i : Nat) : Nat := bcd (unitAt us i)

/-- The position in units `i` and `i + 1`. -/
def positionAt (us : List Half) (i : Nat) : Nat := bcd2 (unitAt us i) (unitAt us (i + 1))

/-- Every digit of the body is 0 to 9 (R143). -/
def bodyDigits (us : List Half) : Bool := ((us.drop 2).take (us.length - 3)).all bcdValid

def wayOf (n : Nat) : Option Way := if n = 1 then some .up else if n = 2 then some .down else none

def loopChoiceOf (n : Nat) : Option LoopSel :=
  if n = 0 then some .none else if n = 1 then some .loopA else if n = 2 then some .loopB else Option.none

def anchorTrackOf (n : Nat) : Option Track :=
  if n = 1 then some .main else if n = 2 then some .loopA else if n = 3 then some .loopB else none

def scopeOf (n : Nat) : Option Scope :=
  if n = 1 then some .up else if n = 2 then some .down else if n = 3 then some .both else none

/-- A side code; the outer option is the range, the inner one side NONE. -/
def sideOf (n : Nat) : Option (Option Side) :=
  if n = 0 then some none else if n = 1 then some (some .left) else if n = 2 then some (some .right)
  else if n = 3 then some (some .both) else none

/-- The body of an AUTHORITY (R145, 11.6). -/
def parseAuthority (us : List Half) : Option Frame :=
  match wayOf (digitsAt us 2), loopChoiceOf (digitsAt us 5) with
  | some w, some c =>
    if positionAt us 3 ≤ maxPosition ∧ 1 ≤ digitsAt us 6 then
      if us.length = 8 then some (.authority w (positionAt us 3) c (digitsAt us 6) none)
      else
        match anchorTrackOf (digitsAt us 9) with
        | none => none
        | some t =>
          if positionAt us 7 ≤ maxPosition then
            some (.authority w (positionAt us 3) c (digitsAt us 6) (some (positionAt us 7, t)))
          else none
    else none
  | _, _ => none

/-- The body of a RESTRICTION_SET (R147, 11.6). -/
def parseRestriction (us : List Half) : Option Frame :=
  match scopeOf (digitsAt us 8) with
  | none => none
  | some sc =>
    if 1 ≤ digitsAt us 2 ∧ positionAt us 3 ≤ positionAt us 5 ∧ positionAt us 5 ≤ maxPosition ∧ digitsAt us 7 ≤ 600 then
      some (.restrictionSet ⟨digitsAt us 2, positionAt us 3, positionAt us 5, digitsAt us 7, sc⟩)
    else none

/-- The body of an ENTRANCE_PERMIT (R149, 11.6). -/
def parsePermit (us : List Half) : Option Frame :=
  match sideOf (digitsAt us 2) with
  | none => none
  | some side =>
    if positionAt us 3 ≤ positionAt us 5 ∧ positionAt us 5 ≤ maxPosition ∧ 1 ≤ digitsAt us 7 then
      some (.permit side (positionAt us 3) (positionAt us 5) (digitsAt us 7))
    else none

/-- A body of one filler unit, which reads 0000. -/
def parseFiller (us : List Half) (f : Frame) : Option Frame := if unitAt us 2 = 0 then some f else none

/-- Check 5 of R143: the contents of a frame of a kind; none is MALFORMED. -/
def parseFrame (k : InboundKind) (us : List Half) : Option Frame :=
  match k with
  | .text => some .text
  | k =>
    if bodyDigits us then
      match k with
      | .authority => parseAuthority us
      | .restrictionSet => parseRestriction us
      | .restrictionLift => if 1 ≤ digitsAt us 2 then some (.restrictionLift (digitsAt us 2)) else none
      | .stopOrder => parseFiller us .stopOrder
      | .stopRelease => parseFiller us .stopRelease
      | .entrancePermit => parsePermit us
      | .heartbeat => parseFiller us .heartbeat
      | .text => some .text
    else none

/-- The outcome of the checks of R143. -/
inductive Verdict where
  | rejected (r : Reason)
  | foreign
  | repeated
  | accepted (k : InboundKind) (f : Frame)
  deriving DecidableEq, Repr

/-- The checks of R143, in their order; a partial unit or a count outside 4 to 28 is REJECTED_FORM at once (R138). -/
def judgeFrame (car : Nat) (last : Option LastAccepted) (us : List Half) (broken : Bool) : Verdict :=
  if broken = true ∨ us.length < 4 ∨ 28 < us.length then .rejected .rejectedForm
  else if unitSum us % 65536 ≠ 0 then .rejected .rejectedCheck
  else
    match frameForm us with
    | none => .rejected .rejectedForm
    | some k =>
      if frameCar us ≠ car ∧ ¬(frameCar us = 0 ∧ k = .heartbeat) then .foreign
      else if last.map LastAccepted.sequence = some (frameSeq us) then .repeated
      else
        match parseFrame k us with
        | none => .rejected .malformed
        | some f => .accepted k f

/-- The safety kinds (R144). -/
def safetyKind : InboundKind → Bool
  | .heartbeat => false
  | .text => false
  | _ => true

/-! ### Radio state (R152) -/

/-- The radio state becomes LOST with a reason: RADIO_LOST is queued. -/
def State.radioLost (s : State) (r : Reason) : State :=
  ({ s with vlu := { s.vlu with radio := .lost, linkLoss := none, shadow := .inactive } }).notice .valley 10 .warn
    [p8 r.code, p32 s.now.toNat]

/-- The radio state becomes UP or SHADOWED by an accepted frame in NOT_HEARD or LOST: by the last judgement; the
allowance of a front segment that is not PRESENT is not known and is a free value (R152, log 23). -/
def State.radioHeard (s : State) : State :=
  if s.vlu.inShadow then
    match s.prof.front, s.prof.frontRec with
    | some n, some r =>
      { s with vlu := { s.vlu with radio := .shadowed, shadow := s.shadowLoaded r.allowance n, linkLoss := none } }
    | f, _ =>
      let t := s.drawn
      { t with vlu := { t.vlu with
          radio := .shadowed, shadow := s.shadowLoaded (5 + s.freeValue % 596) ((f.or s.vlu.judgedFront).getD 0), linkLoss := none } }
  else { s with vlu := { s.vlu with radio := .up, linkLoss := s.linkLossFull } }

/-- An accepted frame changes the radio state and its timers (R144, R152). -/
def State.frameHeard (s : State) : State :=
  match s.vlu.radio with
  | .notHeard => s.radioHeard
  | .up => { s with vlu := { s.vlu with linkLoss := s.linkLossFull } }
  | .shadowed => s
  | .lost => s.radioHeard.notice .valley 11 .info []

/-! ### Receipts (R151) -/

/-- Queue a receipt; with four held it is dropped and RECEIPT_DROPPED queued. -/
def State.queueReceipt (s : State) (r : Receipt) : State :=
  if 4 ≤ s.vlu.receipts.length then s.notice .valley 9 .warn [p8 r.kind.code, p8 r.sequence]
  else { s with vlu := { s.vlu with receipts := s.vlu.receipts ++ [r] } }

/-! ### The records (R145 to R149) -/

/-- The restriction list after a RESTRICTION_SET of an identifier held: replaced in its place. -/
def replaceRestriction (rs : List Restriction) (r : Restriction) : List Restriction :=
  rs.map fun x => if x.ident = r.ident then r else x

/-- An identifier is held. -/
def holdsIdent (rs : List Restriction) (i : Nat) : Bool := rs.any fun x => x.ident == i

/-- RESTRICTION_SET (R147). -/
def State.setRestriction (s : State) (r : Restriction) : ReceiptResult × State :=
  if holdsIdent s.vlu.restrictions r.ident then
    (.done, { s with vlu := { s.vlu with restrictions := replaceRestriction s.vlu.restrictions r } })
  else if s.vlu.restrictions.length < 8 then
    (.done, { s with vlu := { s.vlu with restrictions := s.vlu.restrictions ++ [r] } })
  else
    (.listFull, ({ s with vlu := { s.vlu with overfull := true } }).notice .valley 6 .warn [p16 r.ident])

/-- RESTRICTION_LIFT (R147). -/
def State.liftRestriction (s : State) (i : Nat) : ReceiptResult × State :=
  if holdsIdent s.vlu.restrictions i then
    (.done, { s with vlu := { s.vlu with
      restrictions := s.vlu.restrictions.filter (fun x => !(x.ident == i)), overfull := false } })
  else (.notHeld, s)

/-- The stop mark after a STOP_RELEASE (R148). -/
def StopMark.release : StopMark → StopMark
  | .unreleased => .released
  | .clear => .clear
  | .released => .released

/-- The loop choice and the anchor of an AUTHORITY are handed on (R145): whether the record or the window change
reaches the Supervisor first is a free value. -/
def State.handAuthority (s : State) (choice : LoopSel) (anchor : Option (Nat × Track)) : State :=
  let w := s.loopChoice choice
  let t :=
    if w.prof.window = s.prof.window ∧ w.prof.endKind = s.prof.endKind then w
    else if s.freeValue % 2 = 0 then (s.drawn).loopChoice choice
    else (((s.drawn).evaluate [])).loopChoice choice
  let t := State.syncMotion s t
  match anchor with
  | none => t
  | some (p, track) => if s.motion.posState = .unknown then t.startWalk p track else t

/-- A frame is applied by its kind: the receipt result, the trip causes it raises, the state after it. -/
def State.applyFrame (s : State) (f : Frame) : Option ReceiptResult × List Cause × State :=
  match f with
  | .authority w limit choice validity anchor =>
    (some .done, [], ({ s with vlu := { s.vlu with
      authority := some ⟨false, w, limit, choice, later s.now (1000 * validity), none⟩ } }).handAuthority choice anchor)
  | .restrictionSet r => ((s.setRestriction r).1, [], (s.setRestriction r).2)
  | .restrictionLift i => ((s.liftRestriction i).1, [], (s.liftRestriction i).2)
  | .stopOrder => (some .done, [.valleyStop], { s with vlu := { s.vlu with stop := .unreleased } })
  | .stopRelease => (some .done, [], { s with vlu := { s.vlu with stop := s.vlu.stop.release } })
  | .permit side first last validity =>
    (some .done, [], { s with vlu := { s.vlu with
      permit := side.map fun sd => ⟨sd, first, last, later s.now (1000 * validity)⟩ } })
  | .heartbeat => (none, [], s)
  | .text => (none, [], s)

/-! ### Staging buffers and the INBOUND ring (R142, R150) -/

/-- A staging buffer, by its name: false is the first. -/
def ValleyUnit.stage (v : ValleyUnit) (b : Bool) : StageBuffer := if b then v.stage1 else v.stage0

/-- Change a staging buffer; when both are free the suspended flag clears (R142). -/
def ValleyUnit.setStage (v : ValleyUnit) (b : Bool) (x : StageBuffer) : ValleyUnit :=
  let v := if b then { v with stage1 := x } else { v with stage0 := x }
  if v.stage0.isFree && v.stage1.isFree then { v with suspended := false } else v

/-- The buffer a reception fills. -/
def ValleyUnit.receivingBuffer (v : ValleyUnit) : Option Bool :=
  if v.stage0 = .receiving then some false else if v.stage1 = .receiving then some true else none

/-- A free buffer. -/
def ValleyUnit.freeBuffer (v : ValleyUnit) : Option Bool :=
  if v.stage0.isFree then some false else if v.stage1.isFree then some true else none

/-- The word of two units, the earlier in the low half (11.4). -/
def unitPair (us : List Half) (j : Nat) : Word :=
  wordOf ((unitAt us (2 * j)).toNat + 65536 * (unitAt us (2 * j + 1)).toNat)

/-- The sixteen words of an INBOUND slot (11.4). -/
def inboundWords (us : List Half) (accepted : Time) : List Word :=
  [accepted] ++ (List.range 14).map (unitPair us) ++ [wordOf us.length]

/-- The group of a ring copy: the slot, then the producer word (R150, R168). -/
def inboundGroup (m : WindowMap) (slot : Nat) (b : Bool) (us : List Half) (accepted : Time) : Group :=
  .inboundCopy b
    (bufferWrites (m.inbound + 64 + 64 * slot) (inboundWords us accepted)
      ++ [.write (addrOf m.inbound) (wordOf ((slot + 1) % 16)) (.inboundProducer ((slot + 1) % 16) (some b))])

/-- A ring copy is handed, at the governor's inbound producer (R150). -/
def State.handCopy (s : State) (b : Bool) (us : List Half) (accepted : Time) : State :=
  match s.path.map with
  | none => s
  | some m =>
    let slot := s.vlu.inboundProducer
    ({ s with vlu := { s.vlu.setStage b (.copying us accepted) with inboundProducer := (slot + 1) % 16 } }).hand
      (inboundGroup m slot b us accepted)

/-- The INBOUND ring is full: 15 slots are unconsumed (R150). -/
def State.inboundFull (s : State) : Bool :=
  decide ((s.vlu.inboundProducer + 16 - s.path.inboundConsumer) % 16 = 15)

/-- Free a buffer. -/
def State.freeStage (s : State) (b : Bool) : State := { s with vlu := s.vlu.setStage b .empty }

/-- The copy of an accepted frame (R150). -/
def State.copyFrame (s : State) (b : Bool) (k : InboundKind) (us : List Half) : State :=
  if k = .heartbeat then s.freeStage b
  else if s.inboundFull then (s.freeStage b).notice .valley 8 .warn [p8 k.code, p8 (frameSeq us)]
  else s.handCopy b us s.now

/-! ### Acting on a frame (R144) -/

/-- What an accepted frame still owes once its changes are handed on: its receipt and its ring copy, from the buffer it
stands in (R156). -/
structure Owed where
  buffer : Bool
  kind : InboundKind
  units : List Half
  receipt : Option ReceiptResult
  deriving DecidableEq, Repr

/-- What the acting on a frame brings: the trip causes, the state, and what is still owed. -/
structure Acted where
  causes : List Cause
  state : State
  owed : Option Owed

/-- A frame that changes no record brings no cause and owes nothing. -/
def Acted.only (s : State) : Acted := ⟨[], s, none⟩

/-- An accepted frame changes the records and the radio state (R144, R156). -/
def State.acceptFrame (s : State) (b : Bool) (k : InboundKind) (f : Frame) (us : List Half) : Acted :=
  let r := s.frameHeard.applyFrame f
  ⟨r.2.1, { r.2.2 with vlu := { r.2.2.vlu with lastAccepted := some ⟨frameSeq us, k, r.1⟩ } }, some ⟨b, k, us, r.1⟩⟩

/-- The receipt of an accepted frame is queued, then its ring copy is handed (R150, R151, R156). -/
def State.payOwed (s : State) (o : Owed) : State :=
  let t := match o.receipt with
    | none => s
    | some result => s.queueReceipt ⟨o.kind, frameSeq o.units, result⟩
  t.copyFrame o.buffer o.kind o.units

/-- A REPEAT (R144): the kept receipt again, for a safety kind. -/
def State.repeatFrame (s : State) : State :=
  match s.vlu.lastAccepted with
  | none => s
  | some l =>
    match l.result with
    | none => s
    | some result => if safetyKind l.kind then s.queueReceipt ⟨l.kind, l.sequence, result⟩ else s

/-- A frame that has been received into a buffer is checked and acted on (R143, R144). -/
def State.actOnFrame (s : State) (b : Bool) (us : List Half) (broken : Bool) : Acted :=
  match judgeFrame (Cfg.carNumber s.cfg) s.vlu.lastAccepted us broken with
  | .rejected r =>
    .only ((s.freeStage b).notice .valley 4 .warn
      ([p8 r.code] ++ (if 1 ≤ us.length then [p8 (frameKind us)] else [])
        ++ (if 2 ≤ us.length then [p8 (frameSeq us)] else [])))
  | .foreign => .only (s.freeStage b)
  | .repeated => .only (s.repeatFrame.freeStage b)
  | .accepted k f => s.acceptFrame b k f us

/-! ### Building frames (R153, 11.6) -/

/-- The five filled units of a report: position, position state, speed, supervision state (11.6). -/
def State.reportUnits (s : State) : List Half :=
  toBcd2 s.motion.position ++ [toBcd s.motion.posState.code, toBcd s.motion.speed, toBcd s.sup.state.code]

/-- The check unit: the units sum to 0 modulo 65 536 (R153). -/
def checkUnit (us : List Half) : Half := BitVec.ofNat 16 (65536 - unitSum us % 65536)

/-- Unit 0 of a frame: kind and length (11.6). -/
def headUnit (kind len : Nat) : Half := BitVec.ofNat 16 (kind * 256 + len)

/-- Unit 1 of an outbound frame: car number and sequence (11.6). -/
def State.identUnit (s : State) (seq : Nat) : Half := BitVec.ofNat 16 (Cfg.carNumber s.cfg * 256 + seq)

/-- A frame with its check unit put at its end. -/
def sealFrame (us : List Half) : List Half := us ++ [checkUnit us]

/-- The body of an OUTBOUND frame, with what the governor fills in (11.6). -/
def State.fillBody (s : State) (us : List Half) : List Half :=
  let body := (us.drop 2).take (us.length - 3)
  if frameKind us = 0x41 then s.reportUnits
  else if frameKind us = 0x42 then s.reportUnits ++ body.drop 5
  else body

/-- The units of a chosen frame with a sequence (R153). -/
def State.buildUnits (s : State) (src : SendSource) (seq : Nat) : List Half :=
  match src with
  | .receipt =>
    match s.vlu.receipts with
    | [] => []
    | r :: _ => sealFrame [headUnit 0x44 6, s.identUnit seq, toBcd r.kind.code, toBcd r.sequence, toBcd r.result.code]
  | .alarm => sealFrame ([headUnit 0x43 9, s.identUnit seq, toBcd Cause.rollaway.code] ++ s.reportUnits)
  | _ =>
    match s.vlu.transmit with
    | none => []
    | some t => sealFrame ([unitAt t.units 0, s.identUnit seq] ++ s.fillBody t.units)

/-- The next frame to send, with no frame awaiting a retry (R153). -/
def State.chooseFrame (s : State) : Option SendSource :=
  if !s.vlu.receipts.isEmpty then some .receipt
  else if s.vlu.alarmPending then some .alarm
  else
    match s.vlu.transmit with
    | none => none
    | some t => if frameKind t.units = 0x43 ∨ s.vlu.radio ≠ .shadowed then some .outbound else none

/-- A frame is ready in sending: one awaits a retry, or one is chosen and built (R153). -/
def State.prepareFrame (s : State) : Option State :=
  if s.vlu.sending.isSome then some s
  else
    match s.chooseFrame with
    | none => none
    | some src =>
      let seq := (s.vlu.outSequence + 1) % 256
      some { s with vlu := { s.vlu with outSequence := seq, sending := some ⟨s.buildUnits src seq, src, false⟩ } }

/-! ### The link (R138 to R141) -/

/-- The state the link returns to when a reception or a send ends: in STABLED it is STOPPED (R154). -/
def State.linkRest (s : State) : LinkState := if s.run.runState = .stabled then .stopped else .idle

/-- LSELM becomes asserted: a reception starts, if LRDY allows it (R138), else an overrun is followed (R142). -/
def State.startReception (s : State) : State :=
  match s.lrdy, s.vlu.freeBuffer with
  | true, some b =>
    let v := s.vlu.setStage b .receiving
    { s with vlu := { v with
        lselm := true
        lselmTime := s.now
        link := if v.link = .resetWait then .resetWait else .receiving } }
  | _, _ => { s with vlu := { s.vlu with lselm := true, lselmTime := s.now, overrunning := true } }

/-- A link transfer reset (R140). -/
def State.linkReset (s : State) : State :=
  ({ s with vlu := { s.vlu with link := .resetWait, conflicts := 0, resetTime := s.now } }).notice .valley 1 .warn
    [p32 s.now.toNat]

/-- A conflict (R139): the send stops, the modem's frame is taken if LRDY allows it and it has only just begun, the
count grows; at 8 the link is reset. -/
def State.conflict (s : State) : State :=
  let s := { s with vlu := { s.vlu with link := .idle, conflicts := s.vlu.conflicts + 1 } }
  let s := if s.vlu.lselm then s else s.startReception
  if 8 ≤ s.vlu.conflicts then s.linkReset else s

/-- A frame of the modem meets a send in progress: the conflict comes first (R139). -/
def State.yieldLink (s : State) : State := if s.vlu.link = .sending then s.conflict else s

/-- The link takes a frame of the modem at all: not STOPPED, no fault (R141, R154). -/
def State.listening (s : State) : Bool := decide (s.vlu.link ≠ .stopped) && !s.vlu.fault

/-- A reception is over: LSELM is released (R138). -/
def State.endReception (s : State) : State :=
  { s with vlu := { s.vlu with
      lselm := false
      link := if s.vlu.link = .receiving then s.linkRest
        else if s.run.runState = .stabled ∧ s.vlu.link = .resetWait then .stopped else s.vlu.link } }

/-- An overrun ends (R142): the frame is discarded, LINK_OVERRUN is queued, and the suspended flag is set, which stands
while a buffer is taken. That notice and flag come at the end of the overrun is the model's choice (log 47). -/
def State.overrun (s : State) : State :=
  ({ s with vlu := { s.vlu with
      suspended := !(s.vlu.stage0.isFree && s.vlu.stage1.isFree)
      lselm := false
      overrunning := false } }).notice .valley 3 .warn [p32 s.now.toNat]

/-- A frame of the modem arrives whole (R138, R142, R143): into the buffer its reception took, or a free one, or as an
overrun. In STABLED only a reception in progress is acted on (R154). -/
def State.receive (s : State) (us : List Half) (broken : Bool) : Acted :=
  if s.listening then
    let stabled := decide (s.run.runState = .stabled)
    match s.vlu.receivingBuffer with
    | some b => (s.endReception).actOnFrame b us broken
    | none =>
      if stabled then .only s
      else
        let s := s.yieldLink
        let s := if s.vlu.receivingBuffer.isSome ∨ s.vlu.lselm then s else s.startReception
        match s.vlu.receivingBuffer with
        | some b => (s.endReception).actOnFrame b us broken
        | none => .only s.overrun
  else .only s

/-! ### The OUTBOUND ring (R153) -/

/-- The reads of the sixteen words of an OUTBOUND slot (R153, R168). -/
def outboundReads (m : WindowMap) (slot : Nat) : List QEntry :=
  (List.range 16).map fun i => .read (addrOf (m.outbound + 64 + 64 * slot + 4 * i)) (.outboundWord i)

/-- With the transmit buffer empty and a slot to serve, its read begins (R153). -/
def State.fillTransmit (s : State) : State :=
  match s.path.map with
  | none => s
  | some m =>
    if s.vlu.transmit.isNone ∧ s.vlu.reading.isNone ∧ s.path.outboundProducer ≠ s.vlu.outboundConsumer then
      ({ s with vlu := { s.vlu with reading := some ⟨s.vlu.outboundConsumer, []⟩ } }).handEach
        (outboundReads m s.vlu.outboundConsumer)
    else s

/-- The outbound consumer is advanced and its write handed; the buffer becomes empty (R153). -/
def State.advanceOutbound (s : State) : State :=
  match s.path.map with
  | none => s
  | some m =>
    let c := (s.vlu.outboundConsumer + 1) % 16
    (({ s with vlu := { s.vlu with outboundConsumer := c, transmit := none } }).hand
      (.accesses [.write (addrOf (m.outbound + 4)) (wordOf c) (.outboundConsumer c)])).fillTransmit

/-- The units of an OUTBOUND slot's words (11.4). -/
def slotUnits (ws : List Word) : List Half :=
  (ws.take 14).flatMap fun w => [BitVec.ofNat 16 w.toNat, BitVec.ofNat 16 (w.toNat / 65536)]

/-- Unit 0 of an OUTBOUND slot passes (R153). -/
def outboundPasses (kind len : Nat) : Bool :=
  if kind = 0x41 then len == 8
  else if kind = 0x42 then len == 9
  else if kind = 0x43 ∨ kind = 0x08 then decide (4 ≤ len) && decide (len ≤ 28)
  else false

/-- The read of an OUTBOUND slot is complete (R153). -/
def State.judgeSlot (s : State) (r : OutboundRead) : State :=
  let us := slotUnits r.words
  let len := (unitAt us 0).toNat % 256
  let s := { s with vlu := { s.vlu with reading := none } }
  if outboundPasses (frameKind us) len then
    { s with vlu := { s.vlu with transmit := some ⟨r.slot, us.take len⟩ } }
  else (s.notice .valley 12 .warn [p8 r.slot, p8 (frameKind us), p16 len]).advanceOutbound

/-- A frame has been sent completely (R138, R151, R153, R155). -/
def State.sent (s : State) (f : Sending) : State :=
  let s := { s with vlu := { s.vlu with link := s.linkRest, conflicts := 0, sending := none } }
  match f.source with
  | .receipt => { s with vlu := { s.vlu with receipts := s.vlu.receipts.tail } }
  | .alarm => { s with vlu := { s.vlu with alarmPending := false } }
  | .outbound => s.advanceOutbound
  | .detached => s

/-! ### Run states and CCR (R154, R155) -/

/-- The shadow timer is frozen with its remaining time (R154). -/
def ShadowTimer.freeze (t : ShadowTimer) (now : Time) : ShadowTimer :=
  match t with
  | .active d n => .frozen (if reached now d then 0 else (d - now).toNat) n
  | x => x

/-- The shadow timer resumes with its remaining time (R154). -/
def ShadowTimer.thaw (t : ShadowTimer) (now : Time) : ShadowTimer :=
  match t with
  | .frozen r n => .active (later now r) n
  | x => x

/-- Entry to STABLED (R154); what is on the link runs to its end. An overrun still being followed is dropped without
LINK_OVERRUN or the suspended flag, because LSELM is not acted on in STABLED: that is the model's choice (log 47). -/
def State.valleyToStabled (s : State) : State :=
  { s with vlu := { s.vlu with
      link := if s.vlu.receivingBuffer.isSome ∨ s.vlu.link = .sending then s.vlu.link else .stopped
      lselm := s.vlu.receivingBuffer.isSome || s.vlu.fault
      overrunning := false
      linkLoss := none
      shadow := s.vlu.shadow.freeze s.now } }

/-- Return to RUN from STABLED (R154): STOPPED becomes IDLE. R154 gives IDLE at the return and also lets a reception or a send
that the entry to STABLED found run to its end; that one which has not ended at the return keeps its transfer state and runs on
is the model's choice (log 55). -/
def State.valleyToRun (s : State) : State :=
  { s with vlu := { s.vlu with
      link := if s.vlu.link = .stopped then .idle else s.vlu.link
      linkLoss := if s.vlu.radio = .up then some (later s.now (1000 * Cfg.linkLossTime s.cfg)) else s.vlu.linkLoss
      shadow := s.vlu.shadow.thaw s.now } }

/-- The frame in sending at CCR (R155). -/
def Sending.atCcr (f : Sending) : Option Sending :=
  match f.source with
  | .outbound => if f.begun then some { f with source := .detached } else none
  | _ => some f

/-- The VLU takes CCR, before the ring copies are handed again (R155). -/
def State.valleyAtCcr (s : State) : State :=
  { s with vlu := { s.vlu with
      sending := s.vlu.sending.bind Sending.atCcr
      transmit := none
      reading := none
      inboundProducer := 0
      outboundConsumer := 0 } }

/-- The expiry target of an authority at a position (R146). -/
def expiryTarget (cfg : List Byte) (w : Way) (position : Nat) : Nat :=
  let p : Int :=
    match w with
    | .up => (position : Int) + Cfg.expiryAllowance cfg
    | .down => (position : Int) - Cfg.carLength cfg - Cfg.expiryAllowance cfg
  (max 0 (min (maxPosition : Int) p)).toNat

end Sys2Proof.Machine
end

