-- ==== Sys2Proof/Machine/Tooth.lean ====
section
/-! DEFINITION. The tooth channels (R41 to R47), the Motion Unit's order within a tooth event (R75), standstill (R64),
and what the other units do with the event (R117, R134, R161). -/

namespace Sys2Proof.Machine

/-! ### Comparators and phases (R42, R43) -/

/-- The comparator output for an input (R42). -/
def comparator (hysteresis old : Bool) : InputLevel → Bool
  | .below => false
  | .bandLow => if hysteresis then old else false
  | .bandHigh => if hysteresis then old else true
  | .above => true

/-- The number of phase 1 of a channel among the six comparator settings (11.2). -/
def phaseIndex : Channel → Nat
  | .pinionA => 0
  | .pinionB => 2
  | .wheel => 4

/-- The settings of the block are in effect: from the entry to RUN (R46). -/
def State.settingsInEffect (s : State) : Bool := s.inService

/-- The comparators of a channel take their inputs. -/
def State.compare (s : State) (c : Channel) (h : ToothChannel) (i1 i2 : InputLevel) : ToothChannel :=
  let on := s.settingsInEffect
  let k := phaseIndex c
  { h with
    comp1 := comparator (on && Cfg.hysteresis s.cfg k) h.comp1 i1
    comp2 := comparator (on && Cfg.hysteresis s.cfg (k + 1)) h.comp2 i2 }

/-- The phase levels after polarity (R42). -/
def ToothChannel.levels (h : ToothChannel) (cfg : List Byte) (c : Channel) : Bool × Bool :=
  (h.comp1 != Cfg.inverted cfg (phaseIndex c), h.comp2 != Cfg.inverted cfg (phaseIndex c + 1))

/-- What a change of phase state is (R43, R44). -/
inductive PhaseMove where
  | same
  | step (w : Way)
  | error
  deriving DecidableEq, Repr

/-- The move from one phase state to another, by their places in the UP order (R43, R44). -/
def phaseMove (old new : Nat) : PhaseMove :=
  if (new + 4 - old) % 4 = 0 then .same
  else if (new + 4 - old) % 4 = 1 then .step .up
  else if (new + 4 - old) % 4 = 3 then .step .down
  else .error

/-- The interval of an event: NONE without a last event, or once 65 535 ms have passed (R45). -/
def ToothChannel.interval (h : ToothChannel) (now : Time) : Option Nat :=
  match h.lastEvent with
  | none => none
  | some t => if elapsed now t ≤ 65535 then some (elapsed now t) else none

/-! ### The Motion Unit at a tooth event (R75) -/

/-- The channel speed of an event with an interval (R62). -/
def State.channelSpeedAt (s : State) (c : Channel) (interval : Option Nat) : State :=
  match interval with
  | none => s
  | some i =>
    let n := Cfg.wheelPulses s.cfg
    let sat := channelSaturates n c i
    let t := { s with motion := { s.motion with
      speeds := s.motion.speeds.set c (channelSpeed n c i)
      saturated := s.motion.saturated.set c sat } }
    if sat && !s.motion.saturated.get c then t.notice .motion 1 .warn [p8 (channelCode c), p16 i] else t

/-- D after an event (R65). -/
def MotionUnit.countDifference (m : MotionUnit) (k : Option Kind) (c : Channel) (w : Way) : MotionUnit :=
  if k = some .rack then { m with difference := clampDifference (m.difference + differenceChange c w) } else m

/-- The Motion Unit acts on a tooth event, in the order of R75. -/
def State.motionEvent (s : State) (c : Channel) (w : Way) (interval : Option Nat) : State :=
  let m := { s.motion with standstill := false, standstillTimer := s.now }
  let m := if m.rackEntryPending then { m with rackEntryPending := false, difference := 0 } else m
  let ofSource := m.source.isChannel c
  let s := ({ s with motion := m }).channelSpeedAt c interval
  let s := s.moveBy c w
  let s := if ofSource then { s with motion := { s.motion with movement := w.dir } } else s
  let s := s.syncSpeed
  { s with motion := s.motion.countDifference s.prof.refKind c w }

/-- The causes the Motion Unit raises in an event, from the counts before it and after: the rollback count comes before
D in the order of an event (R65, R66, R75). -/
def motionCauses (before after : MotionUnit) (pendingCleared : Bool) : List Cause :=
  let d0 := if pendingCleared then 0 else before.difference
  (if after.rollback = 3 ∧ before.rollback ≠ 3 then [Cause.rollback] else [])
    ++ (if after.difference.natAbs = 3 ∧ d0 ≠ after.difference then [.pinionDisagree] else [])

/-! ### The other units (R45) -/

/-- Leaving STABLED (R160 to R162): the run state is RUN, the armed flags are clear, the scan and the link start. -/
def State.leaveStabled (s : State) : State :=
  let s := { s with
    run := { s.run with runState := .run }
    tooth := s.tooth.map fun h => { h with armed := false } }
  s.startScanning.valleyToRun

/-- A wake by movement (R161): RUN, the notice ROLLAWAY with the position the event found, the own alarm asked for. -/
def State.wakeByMovement (s : State) (c : Channel) (w : Way) (position : Nat) : State :=
  let t := s.leaveStabled.noticeWords .run 3 .alarm (wordOf (channelCode c + 256 * w.code)) (wordOf position)
  { t with vlu := { t.vlu with alarmPending := true } }

/-- The causes several units raise in one event, in the order they are handed: the order of the units is a free value
where two or more raise one (R87). -/
def State.orderCauses (s : State) (groups : List (List Cause)) : List Cause × State :=
  let gs := groups.filter fun g => !g.isEmpty
  if gs.length ≤ 1 then (gs.flatten, s) else ((permuteBy s.freeValue gs).flatten, s.drawn)

/-- A tooth event reaches the four units (R45, R75, R117, R134, R161), then the Supervisor as one change of its inputs
(R86). -/
def State.toothEvent (before s : State) (c : Channel) (w : Way) : State :=
  let h := s.tooth.get c
  let interval := h.interval s.now
  let wakes := h.armed && decide (s.run.runState = .stabled)
  let s1 := { s with tooth := s.tooth.set c { h with steps := 0, lastEvent := some s.now, phaseError := false } }
  let s1 := if h.armed then { s1 with tooth := s1.tooth.map fun x => { x with armed := false } } else s1
  let s2 := if wakes then s1.wakeByMovement c w s.motion.position else s1
  let s3 := s2.motionEvent c w interval
  let testing := decide (s3.rbc.state = .testing)
  let s4 := if testing then s3.abortTest .movement else s3
  let o := s4.orderCauses
    [motionCauses s.motion s4.motion s.motion.rackEntryPending,
      if testing then [.testMovement] else [],
      if s.allSecured then [] else [.entranceOpenMoving],
      if wakes then [.rollaway] else []]
  o.2.react before o.1 true

/-- A change of phase state in RUN or STABLED (R43, R44). -/
def State.phaseStep (s : State) (c : Channel) (h : ToothChannel) : State :=
  let old := s.tooth.get c
  let l := h.levels s.cfg c
  let h := { h with phase1 := l.1, phase2 := l.2 }
  let oldCode := phaseCode old.phase1 old.phase2
  let newCode := phaseCode l.1 l.2
  let set (x : ToothChannel) : State := { s with tooth := s.tooth.set c x }
  match phaseMove oldCode newCode with
  | .same => set h
  | .error =>
    let t := set { h with steps := 0, phaseError := true }
    if h.phaseError then t else t.notice .tooth 1 .warn [p8 (channelCode c), p8 oldCode, p8 newCode]
  | .step w =>
    let n := h.steps + w.delta
    if n.natAbs < 4 then set { h with steps := n }
    else State.toothEvent s (set h) c w

/-- The inputs of a channel change, by the run state (R46). -/
def State.phaseChange (s : State) (c : Channel) (i1 i2 : InputLevel) : State :=
  let h := s.compare c (s.tooth.get c) i1 i2
  match s.run.runState with
  | .loading => { s with tooth := s.tooth.set c { h with phase1 := h.comp1, phase2 := h.comp2 } }
  | .configFault => { s with tooth := s.tooth.set c h }
  | .run => s.phaseStep c h
  | .stabled => s.phaseStep c h

/-- Entry to RUN from LOADING: the settings take effect, the phase state is the base (R46). -/
def ToothChannel.toRun (h : ToothChannel) (cfg : List Byte) (c : Channel) : ToothChannel :=
  { h with phase1 := (h.levels cfg c).1, phase2 := (h.levels cfg c).2, steps := 0 }

/-- Every channel at the entry to RUN (R46). -/
def State.toothToRun (s : State) : State :=
  { s with tooth := ⟨s.tooth.a.toRun s.cfg .pinionA, s.tooth.b.toRun s.cfg .pinionB, s.tooth.w.toRun s.cfg .wheel⟩ }

/-! ### Expiries (R45, R64) -/

/-- The last-event time of a channel becomes NONE and its speed 0 (R45, R62). -/
def State.intervalExpires (s : State) (c : Channel) : State :=
  State.syncSpeed { s with
    tooth := s.tooth.set c { s.tooth.get c with lastEvent := none }
    motion := { s.motion with speeds := s.motion.speeds.set c 0 } }

/-- Standstill is set (R64). -/
def State.setStandstill (s : State) : State :=
  let m := { s.motion with
    standstill := true
    speeds := ⟨0, 0, 0⟩
    speed := 0
    movement := .none
    difference := 0
    rollback := 0
    rackEntryPending := false
    inclineTimer := none }
  let t := { s with motion := m }
  if s.motion.speed = 0 then t else t.speedChanged

end Sys2Proof.Machine
end

