-- ==== Sys2Proof/Machine/Path.lean ====
section
/-! DEFINITION. The Path Unit (chapter 10): what an entry does when it reaches memory, the insert queue and the memory
port, the rings, guarded writes, slot control writes, the image, and one access of the car computer. -/

namespace Sys2Proof.Machine

/-! ### What reaches memory (R168, R169) -/

/-- The slot becomes DONE when its completion's word 0 reaches memory (R176); a BUSY rule waiting for it ends (R90,
R157). -/
def State.slotDone (s : State) (k : Slot) (goOrder : Nat) : State :=
  let r := s.path.slots.get k
  if r.state = .inFlight ∧ r.goOrder = goOrder then
    let t := s.setSlot k { r with state := .done }
    { t with
      sup := { t.sup with completing := if t.sup.completing = some k then none else t.sup.completing }
      run := { t.run with completing := if t.run.completing = some k then none else t.run.completing } }
  else s

/-- What a word write brings about as it reaches memory. -/
def State.applyEffect (s : State) (e : WriteEffect) : State :=
  match e with
  | .plain => s
  | .noticeProducer v => { s with path := { s.path with published := v } }
  | .inboundProducer v b =>
    let t := { s with path := { s.path with inboundWritten := v } }
    match b with
    | none => t
    | some i => t.freeStage i
  | .outboundConsumer v => { s with path := { s.path with outboundWritten := v } }
  | .slotDone k g => s.slotDone k g
  | .flashWord _ => s
  | .recordWord _ => s

/-- The data of a word read is returned to its unit (R168). -/
def State.deliver (s : State) (p : ReadPurpose) (w : Word) : State :=
  match p with
  | .operand k g i =>
    let r := s.path.slots.get k
    if r.state = .inFlight ∧ r.goOrder = g then s.setSlot k (r.setOperand i w) else s
  | .programData g i => s.programWord g i w
  | .outboundWord i =>
    match s.vlu.reading with
    | none => s
    | some r =>
      if r.words.length = i then { s with vlu := { s.vlu with reading := some { r with words := r.words ++ [w] } } } else s

/-- An entry of the queue reaches memory (R168); a rewrite carries the accepted value of this moment. -/
def State.reach (s : State) (e : QEntry) : State :=
  match e with
  | .write a w eff => State.applyEffect { s with mem := Memory.writeWord s.mem a w } eff
  | .read a p => s.deliver p (Memory.readWord s.mem a)
  | .rewrite g =>
    match s.path.map with
    | none => s.setRewriteWaiting g false
    | some m => State.setRewriteWaiting { s with mem := Memory.writeWord s.mem (guardedAddr m g) (s.acceptedWord g) } g false

/-- The computer's access reaches memory (R169). -/
def State.access (s : State) (a : Access) : State :=
  if a.isWrite then { s with mem := Memory.writeLanes s.mem a.addr a.lanes a.data }
  else { s with path := { s.path with busData := Memory.readWord s.mem a.addr } }

/-! ### The port (R169) -/

/-- The computer's access is granted. -/
def State.grantAccess (s : State) (a : Access) (passed : Nat) : State :=
  State.access { s with path := { s.path with access := none, portBusy := true, passedOver := passed } } a

/-- The oldest queue entry is granted; the passed-over count becomes 0. -/
def State.grantEntry (s : State) (e : QEntry) (rest : List QEntry) : State :=
  State.reach { s with path := { s.path with queue := rest, portBusy := true, passedOver := 0 } } e

/-- The arbiter grants the free port (R169). -/
def State.grant (s : State) : State :=
  if s.path.portBusy then s
  else
    match s.path.access, s.path.queue with
    | none, [] => s
    | some a, [] => s.grantAccess a s.path.passedOver
    | none, e :: rest => s.grantEntry e rest
    | some a, e :: rest =>
      if s.path.passedOver < 8 then s.grantAccess a (s.path.passedOver + 1) else s.grantEntry e rest

/-- A computer access joins the arbitration. -/
def State.submit (s : State) (a : Access) : State := State.grant { s with path := { s.path with access := some a } }

/-! ### The queue (R168, R172) -/

/-- Word 0 of a notice (11.4). -/
def Notice.word0 (n : Notice) : Word := wordOf (n.kind + n.unit * 2 ^ 16 + n.severity.code * 2 ^ 24)

/-- The entries of a notice in a slot, then the producer word (R168, R172). -/
def noticeEntries (m : WindowMap) (slot : Nat) (n : Notice) (stamp : Time) : List QEntry :=
  bufferWrites (m.notice + 64 + 16 * slot) [n.word0, stamp, n.word2, n.word3]
    ++ [.write (addrOf m.notice) (wordOf ((slot + 1) % 64)) (.noticeProducer ((slot + 1) % 64))]

/-- The NOTICE ring has room (R172). -/
def PathUnit.noticeRoom (p : PathUnit) : Bool := decide ((p.allocated + 64 - p.noticeConsumer) % 64 < 63)

/-- A group begins to enter: a notice is stamped and judged for room (R172). -/
def State.beginGroup (s : State) (g : Group) : State :=
  match g with
  | .notice n =>
    match s.path.map with
    | none => s
    | some m =>
      if s.path.noticeRoom then
        { s with path := { s.path with
            entering := noticeEntries m s.path.allocated n s.now
            allocated := (s.path.allocated + 1) % 64 } }
      else { s with path := { s.path with dropped := min 65535 (s.path.dropped + n.carried + 1) } }
  | .inboundCopy _ es => { s with path := { s.path with entering := es } }
  | .completion _ es => { s with path := { s.path with entering := es } }
  | .accesses es => { s with path := { s.path with entering := es } }

/-- The first waiting group may begin to enter: the group before it has wholly entered and the queue is not full. -/
def PathUnit.canBegin (p : PathUnit) : Bool := p.entering.isEmpty && decide (p.queue.length < 8)

/-- The entering group fills the free places, the arbiter grants a free port, and the place that falls free is taken
(R168, R169). -/
def State.serveQueue (s : State) : State := s.pushEntering.grant.pushEntering

/-- The first waiting group begins to enter (R168). -/
def State.enterGroup (s : State) : State :=
  match s.path.waiters with
  | [] => s
  | g :: rest =>
    if s.path.canBegin then (State.beginGroup { s with path := { s.path with waiters := rest } } g).serveQueue
    else s

/-- A group is handed (R168): with nothing waiting or entering and a free place it begins to enter at once, else it joins
the entry waiters. -/
def State.takeGroup (s : State) (g : Group) : State :=
  if s.path.waiters.isEmpty && s.path.canBegin then (s.beginGroup g).serveQueue
  else { s with path := { s.path with waiters := s.path.waiters ++ [g] } }

/-- The unit that hands accesses, by their first. -/
def QEntry.unit : QEntry → UnitId
  | .read _ (.operand _ _ _) => .path
  | .read _ (.programData _ _) => .rfc
  | .read _ (.outboundWord _) => .valley
  | .write _ _ (.flashWord _) => .rfc
  | .write _ _ (.recordWord _) => .profile
  | .write _ _ (.outboundConsumer _) => .valley
  | .write _ _ _ => .run
  | .rewrite .direction => .supervisor
  | .rewrite .traction => .supervisor
  | .rewrite .rackBrake => .rbc
  | .rewrite .serviceBrake => .rbc
  | .rewrite (.entrance _) => .entrance

/-- The owner of an operation (R175). -/
def Operation.unit : Operation → UnitId
  | .flashRead => .rfc
  | .flashProgram => .rfc
  | .flashErase => .rfc
  | .profileInvalidate => .profile
  | .profileRead => .profile
  | .measure => .scan
  | .tripClear => .supervisor
  | .brakeTest => .rbc
  | .stable => .run
  | .resume => .run

/-- The number of the unit that hands a group: of a completion the owner of its slot's operation (R168, R175). -/
def State.groupUnit (s : State) (g : Group) : Nat :=
  match g with
  | .notice n => n.unit
  | .inboundCopy _ _ => UnitId.valley.code
  | .completion k _ => (((Operation.ofCode (s.path.slots.get k).op.toNat).map Operation.unit).getD .path).code
  | .accesses es => ((es.head?.map QEntry.unit).getD .path).code

/-- Of two groups handed at one moment the rules order the first before the second: the initial writes before START (R38), and
the reads, writes, copies and completions of one unit as it hands them, so that a record or a word stands in its buffer before
the slot is done (R22, R28, R175; log 9). No rule orders a notice. -/
def State.ordered (s : State) (g h : Group) : Bool :=
  match g, h with
  | .notice _, _ => false
  | .accesses (_ :: _ :: _), _ => true
  | _, .notice _ => false
  | _, _ => s.groupUnit g == s.groupUnit h

/-- The groups handed so far enter or wait. Handed at one moment, they join in either order (R168): a free value names it,
among the orders that keep what the rules order (log 6, log 9). -/
def State.takeHanded (s : State) : State :=
  let t := { s with path := { s.path with handed := [] } }
  if s.path.handed.isEmpty then s
  else if chained s.ordered s.path.handed then s.path.handed.foldl State.takeGroup t
  else (interleave s.ordered s.freeValue s.path.handed).foldl State.takeGroup t.drawn

/-- The end of an event: the groups it handed enter or wait; the second round is for the next word of a program's data, which
the RFC hands as the first is returned at once (R31, R168). -/
def State.entered (s : State) : State := s.takeHanded.takeHanded

/-- The waiting groups enter, each once the group before it has wholly entered and a place is free (R168). -/
def State.enterWaiting : Nat → State → State
  | 0, s => s
  | k + 1, s => State.enterWaiting k s.enterGroup

/-- Every waiting group that can begin begins; what that hands in turn is admitted behind. -/
def State.waitersEnter (s : State) : State := (State.enterWaiting s.path.waiters.length s).entered

/-- The end of an event that lets waiting groups enter: a place of the queue falls free, or the groups of CCR join the
waiters. -/
def State.served (s : State) : State := s.entered.waitersEnter

/-- The port falls free (R169). -/
def State.portFalls (s : State) : State := State.serveQueue { s with path := { s.path with portBusy := false } }

/-! ### The rings (R170, R171) -/

/-- A value lies in ring order from `a` to `b`, both included. -/
def inRing (n a b v : Nat) : Bool := decide (v < n) && decide ((v + n - a) % n ≤ (b + n - a) % n)

/-- NOTICES_DROPPED is handed when an accepted consumer write frees a slot with the count above 0 (R173). -/
def State.reportDropped (s : State) : State :=
  if s.path.dropped = 0 then s
  else
    let n := s.path.dropped
    State.hand { s with path := { s.path with dropped := 0 } }
      (.notice ⟨UnitId.path.code * 256 + 2, UnitId.path.code, .warn, wordOf n, 0, n⟩)

/-- A full-word write to the NOTICE consumer word (R170, R173). -/
def State.noticeConsumerWrite (s : State) (a : Access) : State :=
  let v := a.data.toNat
  if inRing 64 s.path.noticeConsumer s.path.published v then
    let t := { s with path := { s.path with noticeConsumer := v } }
    (if v = s.path.noticeConsumer then t else t.reportDropped).submit a
  else s.writeRefused a .range

/-- A full-word write to the INBOUND consumer word (R170). -/
def State.inboundConsumerWrite (s : State) (a : Access) : State :=
  let v := a.data.toNat
  if inRing 16 s.path.inboundConsumer s.path.inboundWritten v then
    State.submit { s with path := { s.path with inboundConsumer := v } } a
  else s.writeRefused a .range

/-- A full-word write to the OUTBOUND producer word: from the copy to the slot before the consumer (R171). -/
def State.outboundProducerWrite (s : State) (a : Access) : State :=
  let v := a.data.toNat
  if inRing 16 s.path.outboundProducer ((s.path.outboundWritten + 15) % 16) v then
    (State.submit { s with path := { s.path with outboundProducer := v } } a).fillTransmit
  else s.writeRefused a .range

/-- An OUTBOUND slot is queued: from the consumer as last written up to the producer copy (R171). -/
def PathUnit.slotQueued (p : PathUnit) (slot : Nat) : Bool :=
  decide ((slot + 16 - p.outboundWritten) % 16 < (p.outboundProducer + 16 - p.outboundWritten) % 16)

/-! ### Guarded writes (R94, R92, R99 to R103, R111, R124, R159, R167) -/

/-- A stored guarded write: the waiting rewrite of the word is withdrawn, the event's reactions run, and the write
with its value joins the arbitration (R167). `before` is the state the write found. -/
def State.storeGuarded (s before : State) (w : Guarded) (a : Access) (value : Word) (force : Bool) : State :=
  ((s.dropRewrite w).react before [] force).submit { a with data := value }

/-- The Supervisor takes a new direction: the window is rebuilt (R12, R94). -/
def State.takeDirection (s : State) (d : Dir) : State :=
  let t := { s with sup := { s.sup with direction := d } }
  State.syncMotion s t.rebuildWindow

/-- A DIRECTION write (R94). -/
def State.directionWrite (s : State) (a : Access) : State :=
  match Dir.ofWord a.data with
  | none => s.writeRefused a .range
  | some d =>
    if s.run.runState = .stabled then s.writeRefused a .stabled
    else if s.motion.standstill = false then s.writeRefused a .moving
    else if d = s.sup.direction then s.storeGuarded s .direction a a.data false
    else (s.takeDirection d).storeGuarded s .direction a a.data true

/-- The Supervisor takes a TRACTION value (R92). -/
def State.takeTraction (s : State) (w : Word) : State :=
  let v := min w.toNat s.sup.ceiling
  { s with sup := { s.sup with
      traction := v
      output := v
      acknowledged := s.sup.acknowledged || decide (w = 0) } }

/-- A TRACTION write (R92); in STABLED only 0 is decided (R159). -/
def State.tractionWrite (s : State) (a : Access) : State :=
  if s.run.runState = .stabled ∧ a.data ≠ 0 then s.writeRefused a .stabled
  else (s.takeTraction a.data).storeGuarded s .traction a (wordOf (min a.data.toNat s.sup.ceiling)) true

/-- The RBC stores a RELEASE (R100, R102). -/
def State.takeRelease (s : State) : State :=
  let b := { s.rbc with word := .release }
  { s with rbc := if b.state = .applied then b.startRelease s.now else b }

/-- The RBC stores an APPLY (R103). -/
def State.takeApply (s : State) : State :=
  let t := s.applyIfReleased .host
  { t with rbc := { t.rbc with word := .apply } }

/-- A RACK_BRAKE write (R99, R100, R103); a word that is neither APPLY nor RELEASE takes RANGE in STABLED too, the first of
R99's list (log 54). -/
def State.rackBrakeWrite (s : State) (a : Access) : State :=
  match BrakeWord.ofWord a.data with
  | none => s.writeRefused a .range
  | some w =>
    if s.run.runState = .stabled then s.writeRefused a .stabled
    else
      match w with
      | .apply => s.takeApply.storeGuarded s .rackBrake a a.data false
      | .release =>
        match s.releaseRefusal with
        | some (r, e) => s.releaseRefused r e
        | none => s.takeRelease.storeGuarded s .rackBrake a a.data false

/-- A SERVICE_BRAKE write (R111). -/
def State.serviceBrakeWrite (s : State) (a : Access) : State :=
  if s.run.runState = .stabled then s.writeRefused a .stabled
  else
    let v := min a.data.toNat 100
    (({ s with rbc := { s.rbc with serviceDemand := v } }).formServiceOutput).storeGuarded s .serviceBrake a (wordOf v) false

/-- An entrance request write (R124). R124 gives a word that is no request the reason RANGE, and R159 every value in STABLED
the reason STABLED; that such a word in STABLED takes RANGE, the first of R124's list, is the model's choice (log 54). -/
def State.requestWrite (s : State) (e : Entrance) (a : Access) : State :=
  match Request.ofWord a.data with
  | none => s.writeRefused a .range
  | some q =>
    if s.run.runState = .stabled then s.writeRefused a .stabled
    else
      match s.decideRequest e q with
      | (true, t) => (t.brakeSeesEntrances).storeGuarded s (.entrance e) a a.data false
      | (false, t) => t

/-- A full-word write to a guarded word goes to its owner (R167). -/
def State.guardedWrite (s : State) (w : Guarded) (a : Access) : State :=
  match w with
  | .direction => s.directionWrite a
  | .traction => s.tractionWrite a
  | .rackBrake => s.rackBrakeWrite a
  | .serviceBrake => s.serviceBrakeWrite a
  | .entrance e => s.requestWrite e a

/-! ### Slot control writes (R174, R175) -/

/-- The operation code of a control word. -/
def controlOp (w : Word) : Byte := BitVec.ofNat 8 (w.toNat >>> 8)

/-- The operations refused at once in STABLED (R159). -/
def refusedStabled : Operation → Bool
  | .flashRead => false
  | .flashProgram => true
  | .flashErase => true
  | .profileInvalidate => true
  | .profileRead => false
  | .measure => false
  | .tripClear => true
  | .brakeTest => true
  | .stable => true
  | .resume => false

/-- The five operand reads of a slot (R175). -/
def operandReads (m : WindowMap) (k : Slot) (goOrder : Nat) : List QEntry :=
  (List.range 5).map fun i => .read (slotAddr m k (i + 1)) (.operand k goOrder (i + 1))

/-- A slot whose go has just been accepted is dispatched (R175). -/
def State.dispatch (s : State) (m : WindowMap) (k : Slot) (op : Byte) (goOrder : Nat) : State :=
  match Operation.ofCode op.toNat with
  | none => s.complete k .badOperand []
  | some o =>
    if s.run.runState = .stabled ∧ refusedStabled o then s.completeRefused k .stabled 0
    else s.handEach (operandReads m k goOrder)

/-- Go is accepted (R174). -/
def State.acceptGo (s : State) (m : WindowMap) (k : Slot) (op : Byte) : State :=
  let g := s.path.nextGo
  let t := s.setSlot k ⟨.inFlight, op, g, none, none, none, none, none, false⟩
  State.dispatch { t with path := { t.path with nextGo := g + 1 } } m k op g

/-- The slot becomes IDLE by a control word with go and done clear (R174). -/
def State.clearSlot (s : State) (k : Slot) : State := s.setSlot k { s.path.slots.get k with state := .idle }

/-- A write to a slot's control word (R174): BLOCKED at any width while the slot is IN_FLIGHT, FORM where it is not a
full word. -/
def State.controlWrite (s : State) (m : WindowMap) (k : Slot) (a : Access) : State :=
  if (s.path.slots.get k).state = .inFlight then s.writeRefused a .blocked
  else if a.lanes ≠ allLanes then s.writeRefused a .form
  else if a.data.getLsbD 1 then s.writeRefused a .range
  else if a.data.getLsbD 0 then (s.acceptGo m k (controlOp a.data)).submit a
  else (s.clearSlot k).submit a

/-! ### The image (R178, 11.5) -/

/-- A flag as a bit. -/
def bit (b : Bool) : Nat := if b then 1 else 0

/-- The authority state (11.5). -/
def authorityCode : Option Authority → Nat
  | none => 0
  | some a => if a.expired then 2 else 1

/-- The remaining validity in whole seconds, 0 unless VALID (11.5, R145); that a part of a second is left off is the
model's choice (log 16). -/
def State.remainingValidity (s : State) : Nat :=
  match s.vlu.authority with
  | none => 0
  | some a => if a.expired ∨ reached s.now a.deadline then 0 else (a.deadline - s.now).toNat / 1000

/-- One entrance's byte of word 17 (11.5). -/
def EntranceRec.imageByte (r : EntranceRec) : Nat := r.state.code + 128 * bit r.held

/-- The value of image word `w` at this moment (11.5). -/
def State.imageValue (s : State) (w : Nat) : Nat :=
  match w with
  | 0 => s.run.runState.code + 2 ^ 8 * s.sup.state.code
  | 1 => s.now.toNat
  | 2 => (s.sup.firstCause.map Cause.code).getD 0
  | 3 => causeSet s.sup.causes
  | 4 => s.sup.limit + 2 ^ 16 * s.sup.ceiling
  | 5 => s.motion.speed + 2 ^ 16 * s.motion.movement.code + 2 ^ 24 * bit s.motion.standstill
  | 6 => s.motion.position
  | 7 => s.motion.posState.code + 2 ^ 8 * trackCode s.motion.track
  | 8 => s.prof.front.getD 0xFFFF + 2 ^ 16 * s.prof.loopTaken.code + 2 ^ 24 * s.prof.endKind.code
  | 9 =>
    s.prof.window.length + 2 ^ 8 * s.prof.aheadCount + 2 ^ 16 * s.prof.notPresentCount + 2 ^ 24 * bit s.prof.rearUnresolved
  | 10 =>
    authorityCode s.vlu.authority + 2 ^ 8 * (s.vlu.authority.map fun a => a.choice.code).getD 0
      + 2 ^ 16 * (s.vlu.authority.map fun a => a.way.code).getD 0
  | 11 => (s.vlu.authority.map Authority.limit).getD 0
  | 12 => s.remainingValidity
  | 13 =>
    s.vlu.radio.code + 2 ^ 8 * s.vlu.link.code + 2 ^ 16 * s.vlu.restrictions.length + 2 ^ 24 * bit s.vlu.overfull
      + 2 ^ 25 * bit s.vlu.permit.isSome
  | 14 => s.rbc.state.code + 2 ^ 16 * s.rbc.serviceOutput
  | 15 => (wordOfInt s.scan.last.pa.value).toNat
  | 16 => (wordOfInt s.scan.last.pb.value).toNat
  | 17 =>
    s.ent.recs.x0.imageByte + 2 ^ 8 * s.ent.recs.x1.imageByte + 2 ^ 16 * s.ent.recs.x2.imageByte
      + 2 ^ 24 * s.ent.recs.x3.imageByte
  | 18 => bit s.measurementValid
  | 19 => (s.path.published + 64 - s.path.noticeConsumer) % 64 + 2 ^ 16 * s.path.dropped
  | _ => 0

/-- Image word `w` (R178). -/
def State.imageWord (s : State) (w : Nat) : Word := wordOf (s.imageValue w)

/-! ### One access of the car computer (R165 to R167) -/

/-- A write in RUN or STABLED, by its class (R165). -/
def State.busWrite (s : State) (m : WindowMap) (a : Access) : State :=
  match classify m a.addr with
  | .plain => s.submit a
  | .guarded w => if a.lanes ≠ allLanes then s.writeRefused a .form else s.guardedWrite w a
  | .control k => s.controlWrite m k a
  | .slotWord k =>
    if (s.path.slots.get k).state = .inFlight then s.writeRefused a .blocked else s.submit a
  | .noticeConsumer => if a.lanes ≠ allLanes then s.writeRefused a .form else s.noticeConsumerWrite a
  | .inboundConsumer => if a.lanes ≠ allLanes then s.writeRefused a .form else s.inboundConsumerWrite a
  | .outboundProducer => if a.lanes ≠ allLanes then s.writeRefused a .form else s.outboundProducerWrite a
  | .partWritten => s.writeRefused a .partOwned
  | .unused => s.writeRefused a .unused
  | .ringSlot n => if s.path.slotQueued n then s.writeRefused a .blocked else s.submit a
  | .image _ => s.writeRefused a .partOwned

/-- A read in RUN or STABLED (R165, R178). -/
def State.busRead (s : State) (m : WindowMap) (a : Access) : State :=
  match classify m a.addr with
  | .image w => { s with path := { s.path with busData := s.imageWord w } }
  | _ => s.submit a

/-- An access that the Path Unit classifies (R165). -/
def State.busServed (s : State) (a : Access) : State :=
  match s.path.map with
  | none => s.submit a
  | some m => if a.isWrite then s.busWrite m a else s.busRead m a

/-- One access of the car computer by the run state: held in LOADING (R36), classified in RUN and STABLED (R165),
passed through in CONFIG_FAULT (R39). The computer makes one access at a time: a second one while one is held or
waits for the port is no event of the part (log 8). -/
def State.busAccess (s : State) (a : Access) : State :=
  if s.path.held.isSome ∨ s.path.access.isSome then s
  else
    match s.run.runState with
    | .loading => { s with path := { s.path with held := some a } }
    | .configFault => s.submit a
    | .run => s.busServed a
    | .stabled => s.busServed a

/-- A full-word write access. -/
def wordWrite (addr : Addr) (data : Word) : Access := ⟨addr, allLanes, true, data⟩

/-- The control word of a go with an operation code: go set, the code in bits 8 to 15, the other bits as given. -/
def goWord (op : Nat) (rest : Word) : Word := (rest &&& 0xFFFF00FE) ||| 1 ||| wordOf (op % 256 * 256)

/-- A control word with go and done clear. -/
def clearWord (rest : Word) : Word := rest &&& 0xFFFFFFFC

end Sys2Proof.Machine
end

