-- ==== Sys2Proof/Machine/RunControl.lean ====
section
/-! DEFINITION. Run Control (chapters 2 and 9): the start-up, CONFIG_FAULT, STABLED and the return from it; TRIP_CLEAR
(R90); the hand-over of a slot's operation to its owner (R175); power-on and CCR (R40, R179). -/

namespace Sys2Proof.Machine

/-! ### Start-up (R36 to R39) -/

/-- The word writes that set every window to its initial values: R38, and step 4 of R179. -/
def resetWrites (m : WindowMap) : List QEntry :=
  (List.range 4).map (fun i => .write (addrOf (m.demand + 4 * i)) 0 .plain)
    ++ (List.range 4).map (fun i => .write (addrOf (m.entrance + 4 * i)) 0 .plain)
    ++ (List.range 4).map (fun i => .write (addrOf (m.service + 64 * i)) 0 .plain)
    ++ [.write (addrOf m.notice) 0 (.noticeProducer 0), .write (addrOf (m.notice + 4)) 0 .plain,
        .write (addrOf m.inbound) 0 (.inboundProducer 0 none), .write (addrOf (m.inbound + 4)) 0 .plain,
        .write (addrOf m.outbound) 0 .plain, .write (addrOf (m.outbound + 4)) 0 (.outboundConsumer 0)]

/-- Entry to CONFIG_FAULT (R39): what the units of each chapter lose, then the held access passes through. -/
def State.enterConfigFault (s : State) : State :=
  let held := s.path.held
  let t := { s with
    run := { s.run with runState := .configFault }
    path := { s.path with queue := [], entering := [], waiters := [], handed := [], held := none }
    rfc := { s.rfc with inFlight := none, fills := [], uncached := [], items := [], current := none, activeFill := false }
    prof := ProfileUnit.reset
    scan := { s.scan with running := false, list := [], conv := none }
    sup := { s.sup with ceiling := 0, output := 0 }
    rbc := { s.rbc with setpointA := 0, setpointB := 0, serviceOutput := 0 }
    vlu := { s.vlu with link := .stopped } }
  match held with
  | none => t
  | some a => t.submit a

/-- The block has passed (R38): the map is taken, the initial writes and START are handed. -/
def State.acceptConfig (s : State) : State :=
  let t := { s with
    rfc := { s.rfc with storeValid := true }
    path := { s.path with map := windowMapOf s.cfg } }
  match windowMapOf s.cfg with
  | none => t
  | some m =>
    (t.hand (.accesses (resetWrites m))).notice .run 5 .info [p16 (Cfg.checkHalfword s.cfg), p16 (Cfg.carNumber s.cfg)]

/-- Put 32 bytes into the configuration store at byte 32 × k (R25). -/
def storePiece (store : List Byte) (k : Nat) (bytes : List Byte) : List Byte :=
  store.take (32 * k) ++ bytes ++ store.drop (32 * k + 32)

/-- A CONFIG_READ ends (R25, R36): after the sixteenth the block is checked (R37). -/
def State.configReadEnds (s : State) (k : Nat) (data : List Byte) : State :=
  let bytes := takeBytes 32 data
  let t := { s with rfc := { s.rfc with
    lineBuffer := bytes
    store := storePiece s.rfc.store k bytes
    inFlight := if k < 15 then some (.configRead (k + 1)) else none } }
  if k < 15 then t
  else if configPasses t.cfg then t.acceptConfig
  else t.enterConfigFault

/-- The initial writes have all reached memory (R38). -/
def State.writesDone (s : State) : Bool :=
  s.rfc.storeValid && s.path.queue.isEmpty && s.path.entering.isEmpty && s.path.waiters.isEmpty

/-- Entry to RUN (R38, R46, R57, R120, R154): the units begin, the Supervisor makes its first evaluation, the held
access is released. -/
def State.enterRun (s : State) : State :=
  let held := s.path.held
  let t := { s with
    run := { s.run with runState := .run }
    path := { s.path with held := none }
    vlu := { s.vlu with link := .idle } }
  let t := (t.toothToRun.startScanning).entrancesToRun
  let causes := if t.allSecured ∨ t.motion.standstill then [] else [Cause.entranceUnlocked]
  let t := t.react s causes true
  match held with
  | none => t
  | some a => t.busAccess a

/-! ### STABLED (R157 to R160) -/

/-- The first condition of R157 that fails, with its detail. -/
def State.stableObstacle (s : State) : Option (Reason × Nat) :=
  if s.motion.standstill = false then some (.moving, 0)
  else if s.rbc.state ≠ .applied then some (.brake, 0)
  else
    match s.firstUnsecured with
    | some e => some (.entrance, e.val + 1)
    | none =>
      match s.firstHeld with
      | some e => some (.heldRequest, e.val + 1)
      | none => if s.flashPending then some (.flashBusy, 0) else none

/-- Run Control has handed a completion of a STABLE or RESUME: until it reaches memory the next is BUSY (R157). -/
def State.runBusy (s : State) (k : Slot) : State := { s with run := { s.run with completing := some k } }

/-- Entry to STABLED (R158). -/
def State.enterStabled (s : State) : State :=
  let t := { s with
    run := { s.run with runState := .stabled }
    tooth := s.tooth.map fun h => { h with armed := true } }
  (t.scanToStabled.valleyToStabled).notice .run 1 .info [p32 s.motion.position, p32 s.now.toNat]

/-- STABLE is handed over (R157, R159). A completion BUSY is not itself tracked as Run Control's last one: that is the
model's choice (log 44). -/
def State.stable (s : State) (k : Slot) : State :=
  if s.run.completing.isSome then s.complete k .busy []
  else if s.run.runState = .stabled then (s.completeRefused k .stabled 0).runBusy k
  else
    match s.stableObstacle with
    | some (r, d) => (s.completeRefused k r d).runBusy k
    | none => (s.enterStabled.complete k .ok [s.now]).runBusy k

/-- RESUME is handed over (R160). -/
def State.resume (s : State) (k : Slot) : State :=
  if s.run.completing.isSome then s.complete k .busy []
  else if s.run.runState = .stabled then
    ((s.leaveStabled.notice .run 2 .info []).complete k .ok [0]).runBusy k
  else (s.complete k .ok [1]).runBusy k

/-- A lock loss wakes the part in STABLED (R162): STABLE_ENDED with LOCK_LOSS and the entrance. -/
def State.wakeByLockLoss (s : State) (e : Entrance) : State :=
  if s.run.runState = .stabled then
    s.leaveStabled.notice .run 4 .warn [p8 Reason.lockLoss.code, p8 (e.val + 1)]
  else s

/-! ### TRIP_CLEAR (R89, R90) -/

/-- The condition of a cause stands (R87). -/
def State.stands (s : State) (c : Cause) : Bool :=
  match c with
  | .valleyStop => decide (s.vlu.stop = .unreleased)
  | .entranceOpenMoving => !s.allSecured
  | .entranceUnlocked => !s.allSecured
  | .brakePressureLoss => decide (s.scan.phWindow = .low)
  | .brakeApplyFault => decide (s.rbc.state = .applyFault)
  | .measurementFault => !s.measurementValid
  | .supplyLow => decide (s.scan.vsWindow = .low)
  | _ => false

/-- The reason word a TRIP_CLEAR in TRIP is refused with, by the tests of R90 in their order. -/
def State.clearObstacle (s : State) : Option Nat :=
  if s.motion.standstill = false then some Reason.notStandstill.code
  else if s.rbc.state ≠ .applied then some Reason.brakeNotApplied.code
  else (Cause.all.find? fun c => s.sup.causes.contains c && s.stands c).map fun c => 0x80 + c.code

/-- The Supervisor's completion of a TRIP_CLEAR has been handed: until it reaches memory the next is BUSY (R90). -/
def State.supBusy (s : State) (k : Slot) : State := { s with sup := { s.sup with completing := some k } }

/-- The trip is cleared (R90). -/
def State.clearTrip (s : State) (k : Slot) : State :=
  let first := (s.sup.firstCause.map Cause.code).getD 0
  let set := causeSet s.sup.causes
  let t := { s with sup := { s.sup with state := .normal, firstCause := none, causes := [], tripTime := 0 } }
  (t.notice .supervisor 5 .info [p8 first, p16 set, p32 s.sup.tripTime.toNat]).complete k .ok [0, wordOf first, wordOf set]

/-- TRIP_CLEAR is handed over (R90): the state, and whether it cleared a trip. A completion BUSY is not itself tracked as
the Supervisor's last one: that is the model's choice (log 44). -/
def State.tripClear (s : State) (k : Slot) : State × Bool :=
  if s.sup.completing.isSome then (s.complete k .busy [], false)
  else if s.sup.state ≠ .trip then ((s.complete k .ok [1]).supBusy k, false)
  else
    match s.clearObstacle with
    | some r => ((s.complete k .refused [wordOf r]).supBusy k, false)
    | none => ((s.clearTrip k).supBusy k, true)

/-! ### Hand-over (R175) -/

/-- An operation is handed with its operands to its owner: the state, and whether it brings an evaluation by itself. -/
def State.handOver (s : State) (m : WindowMap) (k : Slot) (r : SlotRec) (o : Operation) : State × Bool :=
  match o with
  | .flashRead => (s.flashReadOp m k r, false)
  | .flashProgram => (s.flashProgramOp m k r, false)
  | .flashErase => (s.flashEraseOp k r, false)
  | .profileInvalidate => (s.profileInvalidate k r, false)
  | .profileRead => (s.profileRead m k r, false)
  | .measure => (s.measure k r, false)
  | .tripClear => s.tripClear k
  | .brakeTest => (s.brakeTest k, false)
  | .stable => (s.stable k, false)
  | .resume => (s.resume k, false)

/-- A slot whose five operand reads have returned is handed over, once (R175). -/
def State.slotDispatch (s : State) (k : Slot) : State :=
  let r := s.path.slots.get k
  match s.path.map, Operation.ofCode r.op.toNat with
  | some m, some o =>
    if r.state = .inFlight ∧ r.operandsReady ∧ r.handed = false then
      let t := (s.setSlot k { r with handed := true }).handOver m k r o
      t.1.react s [] t.2
    else s
  | _, _ => s

/-! ### Power-on (R40) -/

/-- An entrance at power-on: its inputs are pins and read as they stand. -/
def EntranceRec.powerOn (r : EntranceRec) : EntranceRec := EntranceRec.reset r.closedLocked r.openEnd r.obstruction

/-- A tooth channel at power-on: the phase state follows the comparators. -/
def ToothChannel.powerOn (h : ToothChannel) : ToothChannel :=
  { ToothChannel.reset with comp1 := h.comp1, comp2 := h.comp2, phase1 := h.comp1, phase2 := h.comp2 }

/-- The power-on reset input (R40): every unit in its power-on state; memory, the pins and what waits outside the part
stay. LSELM is taken as released until its next assertion (log 37). -/
def State.powerOn (s : State) : State :=
  { State.reset with
    tooth := s.tooth.map ToothChannel.powerOn
    ent := { EntranceUnit.reset with recs := s.ent.recs.map EntranceRec.powerOn }
    mem := s.mem
    freeIndex := s.freeIndex
    pending := s.pending }

/-! ### CCR (R179) -/

/-- The word 0 write of a slot's completion, for its acceptance of go (R176). -/
def QEntry.completes (k : Slot) (goOrder : Nat) (e : QEntry) : Bool :=
  match e with
  | .write _ _ (.slotDone j g) => decide (j = k) && decide (g = goOrder)
  | _ => false

/-- A slot is listed at CCR: IN_FLIGHT, its completion not begun to enter (R179). -/
def State.listed (s : State) (k : Slot) : Bool :=
  let r := s.path.slots.get k
  decide (r.state = .inFlight)
    && !(s.path.entering.any (QEntry.completes k r.goOrder) || s.path.queue.any (QEntry.completes k r.goOrder))

/-- The slots that CCR lists. -/
def State.listedSlots (s : State) : List Slot := [0, 1, 2, 3].filter s.listed

/-- An entry that CCR withdraws: an operand read of a listed slot, a word of an abandoned program or OUTBOUND slot, a word
of the buffer of an abandoned PROFILE_READ (R22). -/
def QEntry.withdrawn (listed : List Slot) (program : Option Nat) (e : QEntry) : Bool :=
  match e with
  | .read _ (.operand k _ _) => listed.contains k
  | .read _ (.programData g _) => program = some g
  | .read _ (.outboundWord _) => true
  | .write _ _ (.recordWord k) => listed.contains k
  | _ => false

/-- A waiting consumer write of the VLU (R155). -/
def QEntry.isConsumerWrite : QEntry → Bool
  | .write _ _ (.outboundConsumer _) => true
  | _ => false

/-- A group that CCR withdraws from the waiters, beside a completion. -/
def Group.withdrawn (listed : List Slot) (program : Option Nat) (g : Group) : Bool :=
  match g with
  | .accesses [e] => e.withdrawn listed program || e.isConsumerWrite
  | _ => false

/-- The waiting completion of a PROFILE_READ that CCR abandons: nothing more is written to its slot (R22). -/
def State.abandonedCompletion (s : State) (g : Group) : Bool :=
  match g with
  | .completion k es =>
    let r := s.path.slots.get k
    s.listed k && decide (r.op.toNat = Operation.profileRead.code) && es.any (QEntry.completes k r.goOrder)
  | _ => false

def Group.isNotice : Group → Bool
  | .notice _ => true
  | _ => false

/-- The staging buffer of a ring copy. -/
def Group.copyBuffer : Group → Option Bool
  | .inboundCopy b _ => some b
  | _ => none

/-- The go order of a FLASH_PROGRAM still reading its data, which CCR aborts (R34). -/
def RfcUnit.readingProgram (r : RfcUnit) : Option Nat :=
  match r.current with
  | some (.flash c) =>
    match c.step with
    | .dataReading _ => some c.op.goOrder
    | _ => none
  | _ => none

/-- The waiters that stay where they stand at CCR: neither notices nor ring copies nor withdrawn groups. -/
def Group.stays (listed : List Slot) (program : Option Nat) (g : Group) : Bool :=
  !g.isNotice && g.copyBuffer.isNone && !g.withdrawn listed program

/-- A ring copy withdrawn at CCR is handed again, into the emptied ring (R155). -/
def State.copyAgain (s : State) (b : Bool) : State :=
  match s.vlu.stage b with
  | .copying us t => s.handCopy b us t
  | _ => s

/-- A slot that CCR lists becomes IDLE (R179); a BUSY rule waiting for it ends. -/
def State.endSlot (s : State) (k : Slot) : State :=
  let t := s.setSlot k { s.path.slots.get k with state := .idle }
  { t with
    sup := { t.sup with completing := if t.sup.completing = some k then none else t.sup.completing }
    run := { t.run with completing := if t.run.completing = some k then none else t.run.completing } }

/-- The slot set of SERVICE_ABORTED. R181 gives its width only; bit k for slot k is the model's choice (log 16). -/
def slotSet (ks : List Slot) : Nat := ks.foldl (fun n k => n + 2 ^ k.val) 0

/-- The groups of the Path Unit at CCR (R179): the re-initialising writes, CCR_RESET with the count discarded, and
SERVICE_ABORTED where a slot is listed. -/
def State.ccrGroups (s : State) (m : WindowMap) (listed : List Slot) : List Group :=
  let reset := packParams [p16 s.path.dropped, p32 s.now.toNat]
  let aborted := packParams [p8 (slotSet listed)]
  [.accesses (resetWrites m), noticeGroup .path 3 .warn reset.1 reset.2]
    ++ if listed.isEmpty then [] else [noticeGroup .path 4 .warn aborted.1 aborted.2]

/-- The path at CCR (R179): the access dropped, the slots listed, the indices and the count zeroed; the Path Unit's groups
join the entry waiters behind what stays, then the notices that waited, and the ring copies are handed again. Places that
what is withdrawn leaves are taken by the group that is entering (R168). R179 puts CCR_RESET first, in slot 0, and orders
neither SERVICE_ABORTED nor the notices that waited against what other units hand at the same CCR (R168 leaves groups of one
moment in either order): that they go before it is the model's choice (log 30). -/
def State.pathAtCcr (s : State) (m : WindowMap) : State :=
  let listed := s.listedSlots
  let program := s.rfc.readingProgram
  let notices := s.path.waiters.filter Group.isNotice
  let copies := s.path.waiters.filterMap Group.copyBuffer
  let keeps : QEntry → Bool := fun e => !e.withdrawn listed program
  let t := State.pushEntering <| listed.foldl State.endSlot { s with path := { s.path with
    access := none
    queue := s.path.queue.filter keeps
    entering := s.path.entering.filter keeps
    waiters := s.path.waiters.filter fun g => g.stays listed program && !s.abandonedCompletion g
    noticeConsumer := 0
    inboundConsumer := 0
    outboundProducer := 0
    allocated := 0
    dropped := 0 } }
  let t := { t with path := { t.path with waiters := t.path.waiters ++ s.ccrGroups m listed ++ notices } }
  copies.foldl State.copyAgain t.valleyAtCcr

/-- The RBC at CCR (R118). -/
def State.brakeAtCcr (s : State) : State :=
  let s := { s with rbc := { s.rbc with serviceDemand := 0 } }
  let t := match s.rbc.state with
    | .testing => s.dropTest
    | _ => s.applyIfReleased .host
  ({ t with rbc := { t.rbc with word := .apply } }).formServiceOutput

/-- The entrances at CCR (R135): held requests are cancelled. -/
def State.entrancesAtCcr (s : State) : State :=
  { s with ent := { s.ent with recs := s.ent.recs.map fun r => { r with held := false } } }

/-- The Supervisor at CCR (R96): the accepted values; a direction that was UP or DOWN has the window rebuilt (R12). -/
def State.supAtCcr (s : State) : State :=
  let t := { s with sup := { s.sup with traction := 0, output := 0 } }
  if s.sup.direction = .none then t else t.takeDirection .none

/-- CCR (R179, R34, R57, R96, R118, R135, R155). The spec does not order the units: that the RBC takes CCR before the
Supervisor, so that the stage plan of R105 is chosen by the direction and the segment from before, is the model's choice
(log 45). -/
def State.ccr (s : State) : State :=
  match s.path.map with
  | none => s
  | some m =>
    let t := (s.pathAtCcr m).rfcAtCcr
    let t := t.scanAtCcr.brakeAtCcr.entrancesAtCcr.supAtCcr
    t.react s [] true

end Sys2Proof.Machine
end

