-- ==== Sys2Proof/Machine/ExecStart.lean ====
section
/-! DEFINITION. The meanings of the commands of start-up and reset: POWER_ON_RESET, CCR, CONFIG_READ, LOADING_LIMIT,
ENTER_RUN. An event whose condition does not hold is no event of the part and changes nothing (log 8). -/

namespace Sys2Proof.Machine

/-- The outcome of every meaning: the part never stops. -/
abbrev Result := Host.Outcome State Fault Refusal

/-- POWER_ON_RESET (R40). -/
def execPowerOnReset (s : State) : Result := .next s.powerOn

/-- CCR (R179): acted on in RUN and STABLED only (R36, R39). A byte that still comes before a SERVICE_READ stops is lost,
since no further word is handed over (R34). -/
def execCcr (_last : List Byte) (s : State) : Result := .next (if s.inService then s.ccr.served else s.entered)

/-- CONFIG_READ (R36): with the time base at its limit the part enters CONFIG_FAULT, and a block that arrives is not
checked. -/
def execConfigRead (data : List Byte) (s : State) : Result :=
  match s.run.runState, s.rfc.inFlight with
  | .loading, some (.configRead k) =>
    .next (if 200 ≤ s.now.toNat then s.enterConfigFault else s.configReadEnds k data).entered
  | _, _ => .next s.entered

/-- LOADING_LIMIT (R36): the time base has reached 200 before the block has passed. -/
def execLoadingLimit (s : State) : Result :=
  .next (if s.run.runState = .loading ∧ s.rfc.storeValid = false ∧ 200 ≤ s.now.toNat then s.enterConfigFault else s).entered

/-- ENTER_RUN (R38). -/
def execEnterRun (s : State) : Result :=
  .next (if s.run.runState = .loading ∧ s.writesDone then s.enterRun else s).entered

end Sys2Proof.Machine
end

