-- ==== Sys2Proof/Machine/ExecBrake.lean ====
section
/-! DEFINITION. The meanings of the expiries of the Rack Brake Controller (chapter 6). -/

namespace Sys2Proof.Machine

/-- RELEASE_TIMEOUT (R102): 3 000 ms since the acceptance, the state still RELEASING. -/
def execReleaseTimeout (s : State) : Result :=
  .next (if s.rbc.state = .releasing ∧ timerDue s.now s.rbc.releaseTimer 3000 then
      (s.startApply .releaseTimeout).react s [] false
    else s).entered

/-- STAGE_REACHED (R106). -/
def execStageReached (s : State) : Result :=
  .next (if s.rbc.stageDue s.now then
      ({ s with rbc := s.rbc.reachStage (s.rbc.plan.reached + 1) s.now }).react s [] false
    else s).entered

/-- APPLY_WINDOW_EXPIRY (R106, R108): BRAKE_APPLY_FAULT is raised. -/
def execApplyWindowExpiry (s : State) : Result :=
  .next (if s.rbc.state = .applying ∧ timerDue s.now s.rbc.applyWindow 2000 then
      s.enterApplyFault.react s [.brakeApplyFault] false
    else s).entered

/-- The loss timer of a pinion. -/
def BrakeUnit.loss (b : BrakeUnit) : Pinion → Option Time
  | .a => b.lossA
  | .b => b.lossB

/-- PRESSURE_LOSS (R110): BRAKE_PRESSURE_LOSS is raised and an application starts. -/
def execPressureLoss (pinion : Pinion) (s : State) : Result :=
  .next (if s.rbc.state = .released ∧ timerDue s.now (s.rbc.loss pinion) 500 then
      (s.startApply .pressureLoss).react s [.brakePressureLoss] false
    else s).entered

/-- A hold step passes at its expiry; the others fail (R115). -/
def TestStep.holds : TestStep → Bool
  | .aHold => true
  | .bHold => true
  | _ => false

/-- TEST_STEP_EXPIRY (R115). -/
def execTestStepExpiry (s : State) : Result :=
  match s.rbc.test with
  | none => .next s.entered
  | some t =>
    if t.step.limit ≤ elapsed s.now t.start then
      .next ((if t.step.holds then s.passStep t else s.failTest t).react s [] false).entered
    else .next s.entered

end Sys2Proof.Machine
end

