-- ==== Sys2Proof/Machine/ExecEntrance.lean ====
section
/-! DEFINITION. The meanings of the entrance sensors and timers (chapter 7). -/

namespace Sys2Proof.Machine

/-- A lock loss (R133, R136, R162): the entrance, the Rack Brake Controller, Run Control, then the cause. -/
def State.lockLossEvent (s before : State) (e : Entrance) : State :=
  let trips := s.lockLossTrips
  ((((s.lockLost e).brakeSeesEntrances).wakeByLockLoss e)).react before (if trips then [.entranceUnlocked] else []) false

/-- A change of the closed-locked input in RUN or STABLED (R129, R132, R133). -/
def State.lockInput (s : State) (e : Entrance) (level : Bool) : State :=
  let r := { s.entrance e with closedLocked := level }
  let t := s.setEntrance e r
  if level then (t.setEntrance e (r.lockRises s.now)).react s [] false
  else if r.state.secured then t.lockLossEvent s e
  else (t.setEntrance e (r.lockFalls s.now)).react s [] false

/-- CLOSED_LOCKED_INPUT (R129): in LOADING the state follows the input (R120); in CONFIG_FAULT it is not acted on. -/
def execClosedLockedInput (entrance : Entrance) (level : Bool) (s : State) : Result :=
  let r := s.entrance entrance
  .next (match s.run.runState with
    | .loading =>
      s.setEntrance entrance { r with closedLocked := level, state := if level then .closedLocked else .ajar }
    | .configFault => s.setEntrance entrance { r with closedLocked := level }
    | _ => if level = r.closedLocked then s else s.lockInput entrance level).entered

/-- OPEN_END_INPUT (R129): its rise ends OPENING. -/
def execOpenEndInput (entrance : Entrance) (level : Bool) (s : State) : Result :=
  let r := { s.entrance entrance with openEnd := level }
  let ends := s.inService && level && !(s.entrance entrance).openEnd && decide (r.state = .opening)
  .next (if ends then (s.setEntrance entrance (r.atOpenEnd s.now)).react s [] false else s.setEntrance entrance r).entered

/-- OBSTRUCTION_INPUT (R131): its rise is taken in CLOSING. -/
def execObstructionInput (entrance : Entrance) (level : Bool) (s : State) : Result :=
  let old := s.entrance entrance
  let t := s.setEntrance entrance { old with obstruction := level }
  let rises := s.inService && level && !old.obstruction && decide (old.state = .closing)
  .next (if rises then (t.obstructed entrance).react s [] false else t).entered

/-- SETTLE_EXPIRY (R132): the closed-locked input has stood true for 50 ms. -/
def execSettleExpiry (entrance : Entrance) (s : State) : Result :=
  .next (if s.inService ∧ timerDue s.now (s.entrance entrance).settle 50 then (s.settled entrance).react s [] false else s).entered

/-- ENTRANCE_MOTION_TIMEOUT (R130). -/
def execEntranceMotionTimeout (entrance : Entrance) (s : State) : Result :=
  match (s.entrance entrance).state.motionTime s.cfg with
  | none => .next s.entered
  | some ms =>
    .next (if s.inService ∧ timerDue s.now (s.entrance entrance).motionTimer ms then
        (s.motionTimeout entrance).react s [] false
      else s).entered

/-- ENTRANCE_HELD_EXPIRED (R126). -/
def execEntranceHeldExpired (entrance : Entrance) (s : State) : Result :=
  let r := s.entrance entrance
  .next (if s.inService ∧ r.held ∧ 1000 * Cfg.heldTime s.cfg ≤ elapsed s.now r.heldTime then
      ((s.cancelHeld entrance).notice .entrance 4 .warn [p8 (entrance.val + 1)]).react s [] false
    else s).entered

end Sys2Proof.Machine
end

