-- ==== Sys2Proof/Machine/ExecField.lean ====
section
/-! DEFINITION. The meanings of the events at the field side (chapters 3 and 4): phases, standstill, markers, scans and
conversions. -/

namespace Sys2Proof.Machine

/-- PHASE_CHANGE (R43). -/
def execPhaseChange (channel : Channel) (input1 input2 : InputLevel) (s : State) : Result :=
  .next (s.phaseChange channel input1 input2).entered

/-- TOOTH_INTERVAL_EXPIRY (R45): 65 535 ms have passed since the channel's last event. -/
def execToothIntervalExpiry (channel : Channel) (s : State) : Result :=
  .next (if s.inService ∧ timerDue s.now (s.tooth.get channel).lastEvent 65535 then
      (s.intervalExpires channel).react s [] false
    else s).entered

/-- STANDSTILL (R64): 1 500 ms have passed since the last tooth event on any channel. In CONFIG_FAULT the Motion
Unit's state stands (R58). -/
def execStandstill (s : State) : Result :=
  .next (if s.run.runState ≠ .configFault ∧ s.motion.standstill = false
        ∧ 1500 ≤ elapsed s.now s.motion.standstillTimer then
      s.setStandstill.react s [] false
    else s).entered

/-- MARKER_EVENT (R68): acted on in RUN and STABLED. -/
def execMarkerEvent (code : BitVec 10) (s : State) : Result :=
  .next (if s.inService then (s.markerEvent code.toNat).react s [] false else s).entered

/-- SCAN_START (R50). -/
def execScanStart (s : State) : Result := .next (if s.scanDue then s.startScan else s).entered

/-- CONVERSION_END (R51). -/
def execConversionEnd (code : BitVec 12) (s : State) : Result :=
  match s.scan.conv with
  | none => .next s.entered
  | some c =>
    let r := s.conversionEnds c code.toNat
    .next (r.2.react s r.1 false).entered

end Sys2Proof.Machine
end

