-- ==== Sys2Proof/Machine/ExecFlash.lean ====
section
/-! DEFINITION. The meanings of the events on the route flash link (chapter 2): the ends of its transactions and the
wait before a poll. -/

namespace Sys2Proof.Machine

/-- The current flash operation while it stands at a step. -/
def State.flashAt (s : State) (st : FlashStep → Bool) : Option CurrentFlash :=
  match s.rfc.current with
  | some (.flash c) => if st c.step then some c else none
  | _ => none

/-- FILL (R3): the transaction in flight ends, and its record is handed to the Profile Unit. -/
def execFill (data : List Byte) (s : State) : Result :=
  match s.rfc.inFlight with
  | some (.fill n discard) => .next ((s.fillEnds n discard data).react s [] false).entered
  | _ => .next s.entered

/-- The command SERVICE_READ on the transaction in flight: nothing while the link clock stands; the end once every byte
has moved and the last word is taken; else the bytes it brings. -/
def State.serviceReadGoes (s : State) (c : CurrentFlash) (moved : Nat) (part data : List Byte) : State :=
  if s.clockStopped c.op.goOrder then s
  else if c.op.count ≤ moved then (s.serviceReadEnds c).react s [] false
  else s.serviceReadMoves c.op moved part data

/-- SERVICE_READ (R24, R28): bytes of the transaction, or its end. -/
def execServiceRead (data : List Byte) (s : State) : Result :=
  match s.rfc.inFlight, s.flashAt fun st => decide (st = .readMoving) with
  | some (.serviceRead moved part), some c => .next (s.serviceReadGoes c moved part data).entered
  | _, _ => .next s.entered

/-- Step 1 of the operation has read all its words. -/
def CurrentFlash.dataRead (c : CurrentFlash) : Bool :=
  match c.step with
  | .dataReading n => decide (c.op.words ≤ n)
  | _ => false

/-- PROGRAM_DATA_READ (R31): step 1 ends, the WRITE_ENABLE waits for lockout SET. -/
def execProgramDataRead (s : State) : Result :=
  match s.rfc.current with
  | some (.flash c) =>
    if c.dataRead then .next ((s.flashStep { c with step := .enableReady }).react s [] false).entered else .next s.entered
  | _ => .next s.entered

/-- The transaction that follows a WRITE_ENABLE (R31). -/
def FlashKind.writes : FlashKind → Txn
  | .read => .serviceRead 0 []
  | .program => .program
  | .erase => .erase

/-- WRITE_ENABLE (R31): the PROGRAM or ERASE follows as soon as it ends. -/
def execWriteEnable (s : State) : Result :=
  match s.flashAt fun st => decide (st = .enableMoving) with
  | some c =>
    .next (({ s with rfc := { s.rfc with inFlight := some c.op.kind.writes } }).flashStep { c with step := .writeMoving }).entered
  | none => .next s.entered

/-- PROGRAM_OR_ERASE_END (R32): the poll limit and the first wait run from here. -/
def execProgramOrEraseEnd (s : State) : Result :=
  match s.flashAt fun st => decide (st = .writeMoving) with
  | some c =>
    .next (s.linkFree.flashStep { c with step := .pollWaiting, ended := s.now, nextPoll := 1, lastPoll := 0, polls := 0 }).entered
  | none => .next s.entered

/-- POLL_READY (R32): the wait is over, and the STATUS_POLL starts. -/
def execPollReady (s : State) : Result :=
  match s.flashAt fun st => decide (st = .pollWaiting) with
  | some c =>
    if c.nextPoll ≤ elapsed s.now c.ended then .next ((s.flashStep { c with step := .pollReady }).react s [] false).entered
    else .next s.entered
  | none => .next s.entered

/-- STATUS_POLL (R32, R33). -/
def execStatusPoll (status : Byte) (s : State) : Result :=
  match s.flashAt fun st => decide (st = .pollMoving) with
  | some c => .next ((s.pollEnds c status).react s [] false).entered
  | none => .next s.entered

end Sys2Proof.Machine
end

