-- ==== Sys2Proof/Machine/ExecPath.lean ====
section
/-! DEFINITION. The meanings of the commands at the memory path: the car computer's accesses by the row each is, the
hand-over of a slot, the insert queue, the memory port. Every access is taken by `State.busAccess`, which classifies it
by its address (R165), so that a row's word written at another address has the effect that address gives it. -/

namespace Sys2Proof.Machine

/-- PLAIN_MEMORY_ACCESS (R165). -/
def execPlainMemoryAccess (addr : Addr) (lanes : Lanes) (isWrite : Bool) (data : Word) (s : State) : Result :=
  .next (s.busAccess ⟨addr, lanes, isWrite, data⟩).entered

/-- ABSORBED_WRITE (R166). -/
def execAbsorbedWrite (addr : Addr) (lanes : Lanes) (data : Word) (s : State) : Result :=
  .next (s.busAccess ⟨addr, lanes, true, data⟩).entered

/-- DIRECTION (R94). -/
def execDirection (addr : Addr) (data : Word) (s : State) : Result := .next (s.busAccess (wordWrite addr data)).entered

/-- TRACTION (R92). -/
def execTraction (addr : Addr) (data : Word) (s : State) : Result := .next (s.busAccess (wordWrite addr data)).entered

/-- RACK_BRAKE_RELEASE (R100): the word RELEASE. -/
def execRackBrakeRelease (addr : Addr) (s : State) : Result :=
  .next (s.busAccess (wordWrite addr (wordOf BrakeWord.release.code))).entered

/-- RACK_BRAKE_APPLY (R103): the word APPLY. -/
def execRackBrakeApply (addr : Addr) (s : State) : Result :=
  .next (s.busAccess (wordWrite addr (wordOf BrakeWord.apply.code))).entered

/-- SERVICE_BRAKE (R111). -/
def execServiceBrake (addr : Addr) (data : Word) (s : State) : Result := .next (s.busAccess (wordWrite addr data)).entered

/-- OPEN (R125). -/
def execOpenRequest (addr : Addr) (s : State) : Result :=
  .next (s.busAccess (wordWrite addr (wordOf Request.opening.code))).entered

/-- CLOSE (R127). -/
def execCloseRequest (addr : Addr) (s : State) : Result :=
  .next (s.busAccess (wordWrite addr (wordOf Request.closing.code))).entered

/-- NONE_REQUEST (R127). -/
def execNoneRequest (addr : Addr) (s : State) : Result :=
  .next (s.busAccess (wordWrite addr (wordOf Request.none.code))).entered

/-- ISOLATE (R128). -/
def execIsolate (addr : Addr) (s : State) : Result :=
  .next (s.busAccess (wordWrite addr (wordOf Request.isolate.code))).entered

/-- RESTORE (R128). -/
def execRestore (addr : Addr) (s : State) : Result :=
  .next (s.busAccess (wordWrite addr (wordOf Request.restore.code))).entered

/-- SLOT_CONTROL_CLEAR (R174). -/
def execSlotControlClear (addr : Addr) (rest : Word) (s : State) : Result :=
  .next (s.busAccess (wordWrite addr (clearWord rest))).entered

/-- SLOT_BAD_OPERATION (R175). -/
def execSlotBadOperation (addr : Addr) (op : Byte) (rest : Word) (s : State) : Result :=
  .next (s.busAccess (wordWrite addr (goWord op.toNat rest))).entered

/-- FLASH_READ (R28): the go; the operation is handed over by SLOT_DISPATCH. -/
def execFlashRead (addr : Addr) (rest : Word) (s : State) : Result :=
  .next (s.busAccess (wordWrite addr (goWord Operation.flashRead.code rest))).entered

/-- FLASH_PROGRAM (R29): the go. -/
def execFlashProgram (addr : Addr) (rest : Word) (s : State) : Result :=
  .next (s.busAccess (wordWrite addr (goWord Operation.flashProgram.code rest))).entered

/-- FLASH_ERASE (R29): the go. -/
def execFlashErase (addr : Addr) (rest : Word) (s : State) : Result :=
  .next (s.busAccess (wordWrite addr (goWord Operation.flashErase.code rest))).entered

/-- PROFILE_INVALIDATE (R21): the go. -/
def execProfileInvalidate (addr : Addr) (rest : Word) (s : State) : Result :=
  .next (s.busAccess (wordWrite addr (goWord Operation.profileInvalidate.code rest))).entered

/-- PROFILE_READ (R22): the go. -/
def execProfileRead (addr : Addr) (rest : Word) (s : State) : Result :=
  .next (s.busAccess (wordWrite addr (goWord Operation.profileRead.code rest))).entered

/-- MEASURE (R56): the go. -/
def execMeasure (addr : Addr) (rest : Word) (s : State) : Result :=
  .next (s.busAccess (wordWrite addr (goWord Operation.measure.code rest))).entered

/-- TRIP_CLEAR (R90): the go. -/
def execTripClear (addr : Addr) (rest : Word) (s : State) : Result :=
  .next (s.busAccess (wordWrite addr (goWord Operation.tripClear.code rest))).entered

/-- BRAKE_TEST (R114): the go. -/
def execBrakeTest (addr : Addr) (rest : Word) (s : State) : Result :=
  .next (s.busAccess (wordWrite addr (goWord Operation.brakeTest.code rest))).entered

/-- STABLE (R157): the go. -/
def execStable (addr : Addr) (rest : Word) (s : State) : Result :=
  .next (s.busAccess (wordWrite addr (goWord Operation.stable.code rest))).entered

/-- RESUME (R160): the go. -/
def execResume (addr : Addr) (rest : Word) (s : State) : Result :=
  .next (s.busAccess (wordWrite addr (goWord Operation.resume.code rest))).entered

/-- SLOT_DISPATCH (R175): the operation is handed to its owner, which carries out or places it. -/
def execSlotDispatch (slot : Slot) (s : State) : Result := .next (s.slotDispatch slot).entered

/-- CONSUMER_INDEX_WRITE (R170). -/
def execConsumerIndexWrite (addr : Addr) (data : Word) (s : State) : Result := .next (s.busAccess (wordWrite addr data)).entered

/-- OUTBOUND_PRODUCER_WRITE (R171). -/
def execOutboundProducerWrite (addr : Addr) (data : Word) (s : State) : Result :=
  .next (s.busAccess (wordWrite addr data)).entered

/-- IMAGE_READ (R178). -/
def execImageRead (addr : Addr) (lanes : Lanes) (s : State) : Result := .next (s.busAccess ⟨addr, lanes, false, 0⟩).entered

/-- GROUP_ENTERS_QUEUE (R168). -/
def execGroupEntersQueue (s : State) : Result := .next s.enterGroup.entered

/-- MEMORY_PORT_GRANT (R169). -/
def execMemoryPortGrant (s : State) : Result := .next s.portFalls.served

end Sys2Proof.Machine
end

