-- ==== Sys2Proof/Machine/ExecValley.lean ====
section
/-! DEFINITION. The meanings of the events on the valley link (chapter 8). The rows of the frame kinds are the end of
one reception each; what the frame then is, the checks of R143 say of its units, whatever row brought it. -/

namespace Sys2Proof.Machine

/-- A reception ends with the units received (R138, R143): the records change, the changes are handed on, and the
receipt and the ring copy come last (R156). -/
def State.frameReceived (s : State) (units : List Half) (broken : Bool) : State :=
  let r := s.receive units broken
  let t := r.state.react s r.causes false
  match r.owed with
  | none => t
  | some o => t.payOwed o

/-- FRAME_REJECTED (R143). -/
def execFrameRejected (units : List Half) (partialUnit : Bool) (s : State) : Result :=
  .next (s.frameReceived units partialUnit).entered

/-- AUTHORITY (R145). -/
def execAuthority (units : List Half) (s : State) : Result := .next (s.frameReceived units false).entered

/-- RESTRICTION_SET (R147). -/
def execRestrictionSet (units : List Half) (s : State) : Result := .next (s.frameReceived units false).entered

/-- RESTRICTION_LIFT (R147). -/
def execRestrictionLift (units : List Half) (s : State) : Result := .next (s.frameReceived units false).entered

/-- STOP_ORDER (R148). -/
def execStopOrder (units : List Half) (s : State) : Result := .next (s.frameReceived units false).entered

/-- STOP_RELEASE (R148). -/
def execStopRelease (units : List Half) (s : State) : Result := .next (s.frameReceived units false).entered

/-- ENTRANCE_PERMIT (R149). -/
def execEntrancePermit (units : List Half) (s : State) : Result := .next (s.frameReceived units false).entered

/-- HEARTBEAT (R144). -/
def execHeartbeat (units : List Half) (s : State) : Result := .next (s.frameReceived units false).entered

/-- TEXT (R149). -/
def execText (units : List Half) (s : State) : Result := .next (s.frameReceived units false).entered

/-- REPEAT (R144). -/
def execRepeatFrame (units : List Half) (s : State) : Result := .next (s.frameReceived units false).entered

/-- The link acts on LSELM: in RUN, not STOPPED, no fault (R141, R154). -/
def State.linkActive (s : State) : Bool := decide (s.run.runState = .run) && s.listening

/-- LINK_OVERRUN (R142). -/
def execLinkOverrun (s : State) : Result :=
  .next (if s.linkActive ∧ s.vlu.receivingBuffer.isNone ∧ (s.lrdy = false ∨ s.vlu.lselm) then s.yieldLink.overrun else s).entered

/-- An attempt finds LSELM asserted (R139): a frame that already awaits its release makes no attempt. -/
def State.attemptBlocked (s : State) : State :=
  if s.vlu.sending.isSome then s
  else
    match s.prepareFrame with
    | none => s
    | some t => t.conflict

/-- LSELM becomes asserted while the link is IDLE: a conflict where a frame is ready, else a reception or an overrun
begins (R138, R139, log 48). -/
def State.selectedIdle (s : State) : State :=
  match s.prepareFrame with
  | none => s.startReception
  | some t => t.conflict

/-- LINK_CONFLICT (R139): LSELM found asserted at an attempt, or asserted during a send. It stands for the assertion of
LSELM: where there is nothing to send, what R138 and R142 give of it comes about (log 48). -/
def execLinkConflict (s : State) : Result :=
  .next (if s.linkActive then
      match s.vlu.link with
      | .sending => s.conflict
      | .idle => if s.vlu.lselm then s.attemptBlocked else s.selectedIdle
      | .resetWait => if s.vlu.lselm then s else s.startReception
      | .receiving => s
      | .stopped => s
    else s).entered

/-- RESET_WAIT_END (R140): 100 ms after the reset. -/
def execResetWaitEnd (s : State) : Result :=
  .next (if s.inService ∧ s.vlu.link = .resetWait ∧ 100 ≤ elapsed s.now s.vlu.resetTime then
      { s with vlu := { s.vlu with link := if s.vlu.receivingBuffer.isSome then .receiving else s.linkRest } }
    else s).entered

/-- The link fault itself (R141): the reception is abandoned, the radio state becomes LOST, LINK_FAULT is queued. -/
def State.faultLink (s : State) : State :=
  let v := match s.vlu.receivingBuffer with
    | none => s.vlu
    | some b => s.vlu.setStage b .empty
  let t := { s with vlu := { v with fault := true } }
  let t := if s.vlu.radio = .lost then t else t.radioLost .linkFault
  t.notice .valley 2 .alarm []

/-- LINK_FAULT (R141): LSELM held for more than 500 ms from its assertion, never in RESET_WAIT. -/
def execLinkFault (s : State) : Result :=
  .next (if s.linkActive ∧ s.vlu.lselm ∧ s.vlu.link ≠ .resetWait ∧ 500 < elapsed s.now s.vlu.lselmTime then
      s.faultLink.react s [] false
    else s).entered

/-- LSELM is released after a fault (R141): the state is IDLE, and an overrun that outlasted the 500 ms ends (R142). -/
def State.clearFault (s : State) : State :=
  let t := { s with vlu := { s.vlu with fault := false, lselm := false, link := s.linkRest } }
  if s.vlu.overrunning then t.overrun else t

/-- LINK_FAULT_CLEARED (R141). R154 does not act on LSELM in STABLED; that its release clears the fault flag there too,
with the state STOPPED, is the model's choice (log 37). -/
def execLinkFaultCleared (s : State) : Result := .next (if s.inService ∧ s.vlu.fault then s.clearFault else s).entered

/-- SEND_ATTEMPT (R153, R139). -/
def execSendAttempt (s : State) : Result :=
  if s.linkActive ∧ s.vlu.link = .idle then
    if s.vlu.lselm then .next s.attemptBlocked.entered
    else
      match s.prepareFrame with
      | none => .next s.entered
      | some t =>
        .next (State.entered { t with vlu := { t.vlu with
          link := .sending
          sending := t.vlu.sending.map fun f => { f with begun := true } } })
  else .next s.entered

/-- FRAME_SENT (R138). -/
def execFrameSent (s : State) : Result :=
  match s.vlu.link, s.vlu.sending with
  | .sending, some f => .next (s.sent f).entered
  | _, _ => .next s.entered

/-- OUTBOUND_SLOT_READ (R153): all sixteen words have returned. -/
def execOutboundSlotRead (s : State) : Result :=
  match s.vlu.reading with
  | none => .next s.entered
  | some r => .next (if r.words.length = 16 then s.judgeSlot r else s).entered

/-- An authority expires (R146). -/
def State.expireAuthority (s : State) (a : Authority) : State :=
  let p := expiryTarget s.cfg a.way s.motion.position
  ({ s with vlu := { s.vlu with authority := some { a with expired := true, expiry := some p } } }).notice .valley 5 .warn
    [p32 a.limit, p32 p]

/-- AUTHORITY_EXPIRY (R146). -/
def execAuthorityExpiry (s : State) : Result :=
  match s.vlu.authority with
  | none => .next s.entered
  | some a =>
    .next (if s.inService ∧ a.expired = false ∧ reached s.now a.deadline then (s.expireAuthority a).react s [] false else s).entered

/-- PERMIT_EXPIRY (R149). -/
def execPermitExpiry (s : State) : Result :=
  match s.vlu.permit with
  | none => .next s.entered
  | some p =>
    .next (if s.inService ∧ reached s.now p.deadline then
        (({ s with vlu := { s.vlu with permit := none } }).notice .valley 7 .info []).react s [] false
      else s).entered

/-- LINK_LOSS_EXPIRY (R152). -/
def execLinkLossExpiry (s : State) : Result :=
  match s.vlu.linkLoss with
  | none => .next s.entered
  | some d =>
    .next (if s.inService ∧ s.vlu.radio = .up ∧ reached s.now d then (s.radioLost .linkLoss).react s [] false else s).entered

/-- SHADOW_EXPIRY (R152). -/
def execShadowExpiry (s : State) : Result :=
  match s.vlu.shadow with
  | .active d _ =>
    .next (if s.inService ∧ s.vlu.radio = .shadowed ∧ reached s.now d then
        (s.radioLost .shadowExhausted).react s [] false
      else s).entered
  | _ => .next s.entered

end Sys2Proof.Machine
end

