-- ==== Sys2Proof/Machine/Dispatch.lean ====
section
/-! DEFINITION. One arm for each command, in the order of spec/opcode_table.json: the effect of the command on
everything but the queue of waiting commands. -/

namespace Sys2Proof.Machine

def exec (i : Instr) (s : State) : Host.Outcome State Fault Refusal :=
  match i with
  | .powerOnReset => Sys2Proof.Machine.execPowerOnReset s
  | .ccr last => Sys2Proof.Machine.execCcr last s
  | .configRead data => Sys2Proof.Machine.execConfigRead data s
  | .loadingLimit => Sys2Proof.Machine.execLoadingLimit s
  | .enterRun => Sys2Proof.Machine.execEnterRun s
  | .plainMemoryAccess addr lanes isWrite data => Sys2Proof.Machine.execPlainMemoryAccess addr lanes isWrite data s
  | .absorbedWrite addr lanes data => Sys2Proof.Machine.execAbsorbedWrite addr lanes data s
  | .direction addr data => Sys2Proof.Machine.execDirection addr data s
  | .traction addr data => Sys2Proof.Machine.execTraction addr data s
  | .rackBrakeRelease addr => Sys2Proof.Machine.execRackBrakeRelease addr s
  | .rackBrakeApply addr => Sys2Proof.Machine.execRackBrakeApply addr s
  | .serviceBrake addr data => Sys2Proof.Machine.execServiceBrake addr data s
  | .openRequest addr => Sys2Proof.Machine.execOpenRequest addr s
  | .closeRequest addr => Sys2Proof.Machine.execCloseRequest addr s
  | .noneRequest addr => Sys2Proof.Machine.execNoneRequest addr s
  | .isolate addr => Sys2Proof.Machine.execIsolate addr s
  | .restore addr => Sys2Proof.Machine.execRestore addr s
  | .slotControlClear addr rest => Sys2Proof.Machine.execSlotControlClear addr rest s
  | .slotBadOperation addr op rest => Sys2Proof.Machine.execSlotBadOperation addr op rest s
  | .flashRead addr rest => Sys2Proof.Machine.execFlashRead addr rest s
  | .flashProgram addr rest => Sys2Proof.Machine.execFlashProgram addr rest s
  | .flashErase addr rest => Sys2Proof.Machine.execFlashErase addr rest s
  | .profileInvalidate addr rest => Sys2Proof.Machine.execProfileInvalidate addr rest s
  | .profileRead addr rest => Sys2Proof.Machine.execProfileRead addr rest s
  | .measure addr rest => Sys2Proof.Machine.execMeasure addr rest s
  | .tripClear addr rest => Sys2Proof.Machine.execTripClear addr rest s
  | .brakeTest addr rest => Sys2Proof.Machine.execBrakeTest addr rest s
  | .stable addr rest => Sys2Proof.Machine.execStable addr rest s
  | .resume addr rest => Sys2Proof.Machine.execResume addr rest s
  | .slotDispatch slot => Sys2Proof.Machine.execSlotDispatch slot s
  | .consumerIndexWrite addr data => Sys2Proof.Machine.execConsumerIndexWrite addr data s
  | .outboundProducerWrite addr data => Sys2Proof.Machine.execOutboundProducerWrite addr data s
  | .imageRead addr lanes => Sys2Proof.Machine.execImageRead addr lanes s
  | .groupEntersQueue => Sys2Proof.Machine.execGroupEntersQueue s
  | .memoryPortGrant => Sys2Proof.Machine.execMemoryPortGrant s
  | .fill data => Sys2Proof.Machine.execFill data s
  | .serviceRead data => Sys2Proof.Machine.execServiceRead data s
  | .programDataRead => Sys2Proof.Machine.execProgramDataRead s
  | .writeEnable => Sys2Proof.Machine.execWriteEnable s
  | .programOrEraseEnd => Sys2Proof.Machine.execProgramOrEraseEnd s
  | .pollReady => Sys2Proof.Machine.execPollReady s
  | .statusPoll status => Sys2Proof.Machine.execStatusPoll status s
  | .phaseChange channel input1 input2 => Sys2Proof.Machine.execPhaseChange channel input1 input2 s
  | .toothIntervalExpiry channel => Sys2Proof.Machine.execToothIntervalExpiry channel s
  | .standstill => Sys2Proof.Machine.execStandstill s
  | .markerEvent code => Sys2Proof.Machine.execMarkerEvent code s
  | .scanStart => Sys2Proof.Machine.execScanStart s
  | .conversionEnd code => Sys2Proof.Machine.execConversionEnd code s
  | .releaseTimeout => Sys2Proof.Machine.execReleaseTimeout s
  | .stageReached => Sys2Proof.Machine.execStageReached s
  | .applyWindowExpiry => Sys2Proof.Machine.execApplyWindowExpiry s
  | .pressureLoss pinion => Sys2Proof.Machine.execPressureLoss pinion s
  | .testStepExpiry => Sys2Proof.Machine.execTestStepExpiry s
  | .closedLockedInput entrance level => Sys2Proof.Machine.execClosedLockedInput entrance level s
  | .openEndInput entrance level => Sys2Proof.Machine.execOpenEndInput entrance level s
  | .obstructionInput entrance level => Sys2Proof.Machine.execObstructionInput entrance level s
  | .settleExpiry entrance => Sys2Proof.Machine.execSettleExpiry entrance s
  | .entranceMotionTimeout entrance => Sys2Proof.Machine.execEntranceMotionTimeout entrance s
  | .entranceHeldExpired entrance => Sys2Proof.Machine.execEntranceHeldExpired entrance s
  | .frameRejected units partialUnit => Sys2Proof.Machine.execFrameRejected units partialUnit s
  | .authority units => Sys2Proof.Machine.execAuthority units s
  | .restrictionSet units => Sys2Proof.Machine.execRestrictionSet units s
  | .restrictionLift units => Sys2Proof.Machine.execRestrictionLift units s
  | .stopOrder units => Sys2Proof.Machine.execStopOrder units s
  | .stopRelease units => Sys2Proof.Machine.execStopRelease units s
  | .entrancePermit units => Sys2Proof.Machine.execEntrancePermit units s
  | .heartbeat units => Sys2Proof.Machine.execHeartbeat units s
  | .text units => Sys2Proof.Machine.execText units s
  | .linkOverrun => Sys2Proof.Machine.execLinkOverrun s
  | .linkConflict => Sys2Proof.Machine.execLinkConflict s
  | .resetWaitEnd => Sys2Proof.Machine.execResetWaitEnd s
  | .linkFault => Sys2Proof.Machine.execLinkFault s
  | .linkFaultCleared => Sys2Proof.Machine.execLinkFaultCleared s
  | .sendAttempt => Sys2Proof.Machine.execSendAttempt s
  | .frameSent => Sys2Proof.Machine.execFrameSent s
  | .outboundSlotRead => Sys2Proof.Machine.execOutboundSlotRead s
  | .authorityExpiry => Sys2Proof.Machine.execAuthorityExpiry s
  | .permitExpiry => Sys2Proof.Machine.execPermitExpiry s
  | .linkLossExpiry => Sys2Proof.Machine.execLinkLossExpiry s
  | .shadowExpiry => Sys2Proof.Machine.execShadowExpiry s
  | .repeatFrame units => Sys2Proof.Machine.execRepeatFrame units s

end Sys2Proof.Machine
end

