-- ==== Sys2Proof/Machine/Step.lean ====
section
/-! DEFINITION. One step: the command at the front of the queue, or a tick of the time base on an empty queue. -/

namespace Sys2Proof.Machine

/-- The state with the queue replaced. -/
def State.withPending (s : State) (q : List Instr) : State := { s with pending := q }

/-- A tick: the time base counts one millisecond (R35, log 2). -/
def State.tick (s : State) : State := { s with run := { s.run with timeBase := s.run.timeBase + 1 } }

/-- The command at the front of the queue is carried out with the rest of the queue; on an empty queue a millisecond
passes, once the waiting groups that can enter have entered: entering takes no time, so none is stamped late (R168, log 9). -/
def step (s : State) : Host.Outcome State Fault Refusal :=
  match s.pending with
  | [] => .next s.waitersEnter.tick
  | c :: rest => exec c (s.withPending rest)

/-- The command a word spells goes to the front of the queue; no word spells one. -/
def State.withFetchWord (s : State) (nbits w : Nat) : State :=
  match decodeTableWord nbits w with
  | none => s
  | some c => s.withPending (c :: s.pending)

end Sys2Proof.Machine
end

