-- ==== Sys2Proof/Safety.lean ====
section
/-! DEFINITION. The predicates the statements are made of: what stands while the car computer can be served, what a
stored or an absorbed write leaves, and the invariants of a step. -/

namespace Sys2Proof.Safety

open Sys2Proof.Machine

/-! ### The car computer's access -/

/-- Between two events: no group stands handed that has neither entered the queue nor joined the waiters (R168). -/
def Settled (s : State) : Prop := s.path.handed = []

/-- The part is in service under a map, and the computer has no access under way: its next one is decided as it
arrives (R165). -/
def Serving (s : State) (m : WindowMap) : Prop :=
  s.inService = true ∧ s.path.map = some m ∧ s.path.held = none ∧ s.path.access = none ∧ Settled s

/-- While the port is free nothing waits for it (R169). -/
def PortIdle (s : State) : Prop :=
  s.path.portBusy = false → s.path.access = none ∧ s.path.queue = [] ∧ s.path.entering = []

/-- A full-word write with a value joins the arbitration (R167, R169): granted at once while the port is free, waiting
for it otherwise. -/
def WriteJoins (s t : State) (addr : Addr) (v : Word) : Prop :=
  (s.path.portBusy = false →
      t.path.portBusy = true ∧ t.path.access = none ∧ t.mem = Memory.writeWord s.mem addr v)
    ∧ (s.path.portBusy = true → t.path.access = some ⟨addr, allLanes, true, v⟩ ∧ t.mem = s.mem)

/-- The state after a notice has been queued: the kind, the unit, the severity and the two parameter words (R172,
11.4). -/
def noticed (s : State) (kind unit : Nat) (sev : Severity) (w2 w3 : Word) : State :=
  s.hand (.notice ⟨kind, unit, sev, w2, w3, 0⟩)

/-- The state after an absorbed write: WRITE_REFUSED with the address, the byte enables, the reason and the data
(R166). -/
def absorbed (s : State) (addr : Addr) (lanes : Lanes) (data : Word) (r : Reason) : State :=
  noticed s 0x0101 1 .info (wordOf (addr.toNat + lanes.toNat * 2 ^ 24 + r.code * 2 ^ 28)) data

/-- The reason a write is absorbed with before any owner is asked, by the class of its address (R165, R166). -/
def absorbReason (s : State) (m : WindowMap) (addr : Addr) (lanes : Lanes) : Option Reason :=
  match classify m addr with
  | .plain => none
  | .partWritten => some .partOwned
  | .image _ => some .partOwned
  | .unused => some .unused
  | .ringSlot n => if s.path.slotQueued n then some .blocked else none
  | .slotWord k => if (s.path.slots.get k).state = .inFlight then some .blocked else none
  | .control k =>
    if (s.path.slots.get k).state = .inFlight then some .blocked else if lanes = 0xF then none else some .form
  | _ => if lanes = 0xF then none else some .form

/-- A write that passes to memory without an owner's decision. -/
def Passes (s : State) (m : WindowMap) (addr : Addr) : Prop :=
  classify m addr = .plain
    ∨ (∃ k, classify m addr = .slotWord k ∧ (s.path.slots.get k).state ≠ .inFlight)
    ∨ ∃ n, classify m addr = .ringSlot n ∧ s.path.slotQueued n = false

/-! ### Groups enter the queue -/

/-- What a group brings into the queue: of a notice the four words of the slot at the allocated producer, stamped with the
moment, and the producer word (R168, R172); of any other the accesses it is made of. -/
def groupEntries (s : State) (m : WindowMap) : Group → List QEntry
  | .notice n =>
    let slot := m.notice + 64 + 16 * s.path.allocated
    let next := (s.path.allocated + 1) % 64
    [.write (addrOf slot) n.word0 .plain, .write (addrOf (slot + 4)) s.now .plain, .write (addrOf (slot + 8)) n.word2 .plain,
      .write (addrOf (slot + 12)) n.word3 .plain, .write (addrOf m.notice) (wordOf next) (.noticeProducer next)]
  | .inboundCopy _ es => es
  | .completion _ es => es
  | .accesses es => es

/-- The group is a notice that the full ring has no room for: 63 are unconsumed (R172). -/
def DropsNotice (s : State) (g : Group) : Prop :=
  ∃ n, g = .notice n ∧ 63 ≤ (s.path.allocated + 64 - s.path.noticeConsumer) % 64

/-- The path once a group has begun to enter on a busy port: its entries take the free places in order, and the others enter
as places fall free (R168). -/
def groupBegun (s : State) (m : WindowMap) (g : Group) : PathUnit :=
  { s.path with
    queue := s.path.queue ++ (groupEntries s m g).take (8 - s.path.queue.length)
    entering := (groupEntries s m g).drop (8 - s.path.queue.length)
    allocated := match g with
      | .notice _ => (s.path.allocated + 1) % 64
      | _ => s.path.allocated }

/-- An order of a list in which each element stands before every later one of the list that it is ordered before. -/
inductive Joins {α : Type} (ordered : α → α → Bool) : List α → List α → Prop
  | nil : Joins ordered [] []
  | cons {x : α} {xs front back : List α} : Joins ordered xs (front ++ back) → (∀ y ∈ front, ordered x y = false) →
      Joins ordered (x :: xs) (front ++ x :: back)

/-- What stands while groups enter the queue: everything but the path, memory, the free-value counter and what an entry brings
about as it reaches memory: a slot's BUSY rule (R90, R157), rewrite waiting of the owner (R93, R104, R124), a staging buffer
(R150), a word of an OUTBOUND slot (R153), of a program's data (R31). -/
def EntryKeeps (s t : State) : Prop :=
  t.prof = s.prof ∧ t.tooth = s.tooth ∧ t.scan = s.scan ∧ t.motion = s.motion ∧ t.pending = s.pending
    ∧ t.run = { s.run with completing := t.run.completing }
    ∧ t.sup = { s.sup with rewriteWaiting := t.sup.rewriteWaiting, completing := t.sup.completing }
    ∧ t.rbc = { s.rbc with rewriteWaiting := t.rbc.rewriteWaiting }
    ∧ t.ent = { s.ent with recs := t.ent.recs }
    ∧ (∀ e, t.entrance e = { s.entrance e with rewriteWaiting := (t.entrance e).rewriteWaiting })
    ∧ t.vlu = { s.vlu with reading := t.vlu.reading, stage0 := t.vlu.stage0, stage1 := t.vlu.stage1 }
    ∧ t.rfc = { s.rfc with pageBuffer := t.rfc.pageBuffer, current := t.rfc.current }
    ∧ t.path.map = s.path.map ∧ t.path.held = s.path.held ∧ t.path.nextGo = s.path.nextGo
    ∧ t.path.noticeConsumer = s.path.noticeConsumer ∧ t.path.inboundConsumer = s.path.inboundConsumer
    ∧ t.path.outboundProducer = s.path.outboundProducer

/-- What no write of the car computer and no expiry of the RBC moves: the run state and the time base, the route
window and cache, the tooth channels, the scan, the Motion Unit, the free values and the queue. -/
def FieldSideKept (s t : State) : Prop :=
  t.run = s.run ∧ t.prof = s.prof ∧ t.tooth = s.tooth ∧ t.scan = s.scan ∧ t.motion = s.motion
    ∧ t.freeIndex = s.freeIndex ∧ t.pending = s.pending

/-! ### The commands of a word -/

/-- The command that writes a request (R124). -/
def requestCommand : Request → Addr → Instr
  | .none, a => .noneRequest a
  | .opening, a => .openRequest a
  | .closing, a => .closeRequest a
  | .isolate, a => .isolate a
  | .restore, a => .restore a

/-- The command that writes go with an operation (R174). -/
def goCommand : Operation → Addr → Word → Instr
  | .flashRead, a, r => .flashRead a r
  | .flashProgram, a, r => .flashProgram a r
  | .flashErase, a, r => .flashErase a r
  | .profileInvalidate, a, r => .profileInvalidate a r
  | .profileRead, a, r => .profileRead a r
  | .measure, a, r => .measure a r
  | .tripClear, a, r => .tripClear a r
  | .brakeTest, a, r => .brakeTest a r
  | .stable, a, r => .stable a r
  | .resume, a, r => .resume a r

/-- A RELEASE is absorbed with BRAKE_RELEASE_REFUSED: the reason, and the entrance for ENTRANCE (R100). -/
def RefusesRelease (s : State) (addr : Addr) (r : Reason) (e : Nat) : Prop :=
  exec (.rackBrakeRelease addr) s = .next (noticed s 0x0901 9 .info (wordOf (r.code + 256 * e)) 0).entered

/-- The word that `goCommand` writes: go set, the code in bits 8 to 15, the other bits as given (11.3). -/
def goWordOf (o : Operation) (rest : Word) : Word := (rest &&& 0xFFFF00FE) ||| 1 ||| wordOf (o.code * 256)

/-- A frame that ends is received: the part is in RUN, there is no fault, and the reception runs (RECEIVING, or RESET_WAIT
with a buffer taken) or begins with LSELM in the same event, LRDY being asserted (R138, R140, R142). -/
def Hearing (s : State) : Prop :=
  s.run.runState = .run ∧ s.vlu.fault = false
    ∧ ((s.vlu.link = .receiving ∨ s.vlu.link = .resetWait) ∧ s.vlu.receivingBuffer.isSome = true
      ∨ (s.vlu.link = .idle ∨ s.vlu.link = .resetWait) ∧ s.vlu.receivingBuffer = none ∧ s.vlu.lselm = false ∧ s.lrdy = true)

/-- The staging buffer of the frame that ends: the one its reception took, else a free one (R138, R142). -/
def takenBuffer (s : State) : Bool := (s.vlu.receivingBuffer.or s.vlu.freeBuffer).getD false

/-- The command that brings a frame of a kind (R144 to R149). -/
def frameCommand : InboundKind → List Half → Instr
  | .authority, us => .authority us
  | .restrictionSet, us => .restrictionSet us
  | .restrictionLift, us => .restrictionLift us
  | .stopOrder, us => .stopOrder us
  | .stopRelease, us => .stopRelease us
  | .entrancePermit, us => .entrancePermit us
  | .heartbeat, us => .heartbeat us
  | .text, us => .text us

/-- After the reception of a frame in RUN: LSELM is released and the link is IDLE, or stays RESET_WAIT (R138); the run state,
the field side and memory stand. -/
def Received (s t : State) : Prop :=
  t.vlu.link = (if s.vlu.link = .resetWait then .resetWait else .idle) ∧ t.vlu.lselm = false ∧ t.run = s.run ∧ t.tooth = s.tooth ∧ t.scan = s.scan ∧ t.mem = s.mem
    ∧ t.pending = s.pending

/-- The valley records: authority, restrictions, OVERFULL, stop mark and permit (R145 to R149). -/
def RecordsKept (s t : State) : Prop :=
  t.vlu.authority = s.vlu.authority ∧ t.vlu.restrictions = s.vlu.restrictions ∧ t.vlu.overfull = s.vlu.overfull
    ∧ t.vlu.stop = s.vlu.stop ∧ t.vlu.permit = s.vlu.permit

/-- The units pass the five checks as a frame of a kind with the contents given (R143). -/
def Passed (s : State) (units : List Half) (k : InboundKind) (f : Frame) : Prop :=
  judgeFrame (Cfg.carNumber s.cfg) s.vlu.lastAccepted units false = .accepted k f

/-- The lengths that 11.6 allows for a kind. -/
def LengthAllowed : InboundKind → Nat → Prop
  | .authority, n => n = 8 ∨ n = 11
  | .restrictionSet, n => n = 10
  | .entrancePermit, n => n = 9
  | .text, n => 4 ≤ n ∧ n ≤ 28
  | _, n => n = 4

/-- The contents that check 5 of R143 allows: every digit of a packed-decimal body 0 to 9, every field with a value of its
kind. The text of a TEXT is not judged. -/
def ContentAllowed (k : InboundKind) (us : List Half) : Prop :=
  let field (i : Nat) := bcd (unitAt us i)
  let position (i : Nat) := 10000 * field i + field (i + 1)
  (k ≠ .text → ∀ i, 2 ≤ i → i + 1 < us.length → ∀ d, d < 4 → (unitAt us i).toNat / 16 ^ d % 16 ≤ 9)
  ∧ match k with
    | .authority => 1 ≤ field 2 ∧ field 2 ≤ 2 ∧ position 3 ≤ 199999 ∧ field 5 ≤ 2 ∧ 1 ≤ field 6
        ∧ (us.length = 11 → position 7 ≤ 199999 ∧ 1 ≤ field 9 ∧ field 9 ≤ 3)
    | .restrictionSet => 1 ≤ field 2 ∧ position 3 ≤ position 5 ∧ position 5 ≤ 199999 ∧ field 7 ≤ 600 ∧ 1 ≤ field 8 ∧ field 8 ≤ 3
    | .restrictionLift => 1 ≤ field 2
    | .entrancePermit => field 2 ≤ 3 ∧ position 3 ≤ position 5 ∧ position 5 ≤ 199999 ∧ 1 ≤ field 7
    | .text => True
    | _ => unitAt us 2 = 0

/-! ### Slots -/

/-- The rules of R177 for a buffer: its alignment, its length, its end, and that no byte of it lies in one of the seven
windows. -/
def BufferGood (m : WindowMap) (addr len : Nat) : Prop :=
  addr % 4 = 0 ∧ 1 ≤ len ∧ addr + len ≤ 16777216
    ∧ ∀ x, addr ≤ x → x < addr + len → ∀ w ∈ [(m.demand, 64), (m.entrance, 64), (m.service, 256), (m.notice, 1088),
        (m.inbound, 1088), (m.outbound, 1088), (m.image, 128)], ¬(w.1 ≤ x ∧ x < w.1 + w.2)

/-- A slot whose operation waits to be handed to its owner: go accepted, the five operands returned (R175). -/
def AtHandOver (s : State) (m : WindowMap) (k : Slot) (o : Operation) : Prop :=
  s.path.map = some m ∧ (s.path.slots.get k).state = .inFlight ∧ (s.path.slots.get k).op = BitVec.ofNat 8 o.code
    ∧ (s.path.slots.get k).operandsReady = true ∧ (s.path.slots.get k).handed = false

/-- The completion of a slot: result words 6 to 15, those not given 0, then word 0 with go clear, done set, the
operation as accepted and the result code (R176). -/
def completion (s : State) (m : WindowMap) (k : Slot) (c : ResultCode) (results : List Word) : Group :=
  .completion k
    ((List.range 10).map (fun i => QEntry.write (slotAddr m k (6 + i)) (results.getD i 0) .plain)
      ++ [.write (slotAddr m k 0)
        (wordOf (2 + (s.path.slots.get k).op.toNat * 2 ^ 8 + c.code * 2 ^ 16)) (.slotDone k (s.path.slots.get k).goOrder)])

/-- The event hands a group; `t` is the state before what the event hands has entered the queue or joined the waiters. That it
is the first of the list is the model's way to note it: those of one moment join in either order (R168, log 9). -/
def HandsFirst (s t : State) (g : Group) : Prop := s.path.handed ++ [g] <+: t.path.handed

/-- The event hands the groups of a list. -/
def HandsAll (s t : State) (gs : List Group) : Prop := s.path.handed ++ gs <+: t.path.handed

/-- What a control write leaves alone: every unit but the path. -/
def UnitsKept (s t : State) : Prop :=
  FieldSideKept s t ∧ t.rfc = s.rfc ∧ t.sup = s.sup ∧ t.rbc = s.rbc ∧ t.ent = s.ent ∧ t.vlu = s.vlu

/-- The operations refused with STABLED at once in STABLED (R159). -/
def barredInStabled : List Operation := [.flashProgram, .flashErase, .profileInvalidate, .tripClear, .brakeTest, .stable]

/-- The first of a list whose condition fails, with what it names. -/
def firstFailing : List (Bool × Reason) → Option Reason
  | [] => none
  | (ok, r) :: rest => if ok then firstFailing rest else some r

/-- The reason a BRAKE_TEST is refused with: the conditions of R114 in their order. -/
def testReason (s : State) : Option Reason :=
  firstFailing
    [(s.motion.standstill, .notStandstill), (decide (s.rbc.state = .applied), .notApplied), (s.allSecured, .entrance),
      (decide (s.sup.state ≠ .trip), .tripped), (!s.writeInFlight, .flashBusy), (decide (s.scan.meas = .valid), .measurement),
      (decide (s.scan.phWindow ≠ .low), .supply)]

/-- The reason a FLASH_PROGRAM or FLASH_ERASE is refused with as it would become current: the conditions of R30 in their
order. -/
def flashReason (s : State) : Option Reason :=
  firstFailing
    [(s.motion.standstill, .moving), (decide (s.rbc.state = .applied), .brake), (s.allSecured, .entrance),
      (decide (s.run.runState = .run), .runState)]

/-- The reason and the detail a STABLE is refused with in RUN: the conditions of R157 in their order. -/
def stableReason (s : State) : Option (Reason × Nat) :=
  if s.motion.standstill = false then some (.moving, 0)
  else if s.rbc.state ≠ .applied then some (.brake, 0)
  else
    match s.firstUnsecured, s.firstHeld with
    | some e, _ => some (.entrance, e.val + 1)
    | none, some e => some (.heldRequest, e.val + 1)
    | none, none => if s.flashPending then some (.flashBusy, 0) else none

/-- The condition of a cause stands at a TRIP_CLEAR (R87, R90). -/
def CauseStands (s : State) : Cause → Prop
  | .valleyStop => s.vlu.stop = .unreleased
  | .entranceOpenMoving => s.allSecured = false
  | .entranceUnlocked => s.allSecured = false
  | .brakePressureLoss => s.scan.phWindow = .low
  | .brakeApplyFault => s.rbc.state = .applyFault
  | .measurementFault => s.scan.meas ≠ .valid
  | .supplyLow => s.scan.vsWindow = .low
  | _ => False

/-- The operands of a flash operation do not name a range of the flash (R28, R29). -/
def flashOutside : FlashKind → (a n : Nat) → Bool
  | .read, a, n => decide (n < 1) || decide (256 < n) || decide (4194304 < a + n)
  | .program, a, n => decide (n < 1) || decide (256 < n) || decide (4194304 ≤ a) || decide (256 < a % 256 + n)
  | .erase, a, _ => decide (a % 4096 ≠ 0) || decide (4194304 ≤ a)

/-- The stage plan that R105 chooses from the reference segment and the accepted direction: the entry of the stage table for the
gradient class and the direction in which the segment descends, one stage on ADHESION and where it does not descend, the entry
of the class 350-500 where kind and gradient are unknown. A plan of one stage has no interval. The table's entries for UP are
those of even place (11.2). -/
def PlanChosen (s : State) (count interval : Nat) : Prop :=
  let entry (gradeClass : Nat) (w : Way) := (Cfg.stageCount s.cfg (2 * gradeClass + if w = .up then 0 else 1),
    Cfg.stageInterval s.cfg (2 * gradeClass + if w = .up then 0 else 1))
  (∀ r, s.prof.refRec = some r →
    (r.kind = .adhesion → count = 1)
    ∧ (r.kind ≠ .adhesion →
      (s.sup.direction ≠ .down → r.gradient < 0 → (count, interval) = entry (gradientClass r.gradient) .up)
      ∧ (s.sup.direction ≠ .up → 0 < r.gradient → (count, interval) = entry (gradientClass r.gradient) .down)
      ∧ (s.sup.direction = .up → 0 ≤ r.gradient → count = 1) ∧ (s.sup.direction = .down → r.gradient ≤ 0 → count = 1)
      ∧ (s.sup.direction = .none → r.gradient = 0 → count = 1)))
  ∧ (s.prof.refRec = none → (count, interval) = entry 4 (if s.sup.direction = .up then .up else .down))

/-- An application has begun: the plan that R105 chooses, at its first stage (R103, R106). -/
def Applying (s t : State) : Prop :=
  t.rbc.state = .applying ∧ t.rbc.word = .apply ∧ t.rbc.releaseTimer = none ∧ t.rbc.lossA = none ∧ t.rbc.lossB = none
    ∧ PlanChosen s t.rbc.plan.count t.rbc.plan.interval ∧ t.rbc.plan.reached = 1 ∧ t.rbc.plan.start = s.now
    ∧ t.rbc.setpointA = min s.rbc.setpointA (1000 * (t.rbc.plan.count - 1) / t.rbc.plan.count)
    ∧ t.rbc.setpointB = min s.rbc.setpointB (1000 * (t.rbc.plan.count - 1) / t.rbc.plan.count)

/-- RACK_BRAKE_AUTO_APPLY is queued with a reason and the last two pressures, each in its low 16 bits
(log 52), and the word is rewritten (R103, R104). -/
def AutoApplied (s t : State) (r : Reason) : Prop :=
  Group.notice ⟨0x0902, 9, .warn, wordOf (r.code + 2 ^ 8 * (s.scan.last.pa.value % 65536).toNat),
      wordOf (s.scan.last.pb.value % 65536).toNat, 0⟩ ∈ t.path.handed
    ∧ (s.rbc.word = .release → t.rbc.rewriteWaiting = true)

/-- The entry to CONFIG_FAULT (R39): what each unit loses; memory holds at most the held access beside. -/
def ConfigFaultEntered (s t : State) : Prop :=
  t.run = { s.run with runState := .configFault } ∧ t.path.queue = [] ∧ t.path.entering = [] ∧ t.path.waiters = []
    ∧ t.path.handed = [] ∧ t.path.held = none ∧ t.prof = ProfileUnit.reset ∧ t.rfc.inFlight = none ∧ t.rfc.fills = [] ∧ t.rfc.current = none
    ∧ t.scan.running = false ∧ t.scan.conv = none ∧ t.sup.ceiling = 0 ∧ t.sup.output = 0 ∧ t.rbc.setpointA = 0
    ∧ t.rbc.setpointB = 0 ∧ t.rbc.serviceOutput = 0 ∧ t.vlu.link = .stopped ∧ t.ent = s.ent ∧ t.motion = s.motion
    ∧ t.tooth = s.tooth ∧ (s.path.held = none → t.mem = s.mem)

/-- The service brake output is the greatest of the three claims (R112). -/
def GreatestClaim (s : State) : Prop := s.rbc.serviceOutput = max s.rbc.serviceDemand (max s.sup.claim s.rbc.testClaim)

/-! ### The valley link -/

/-- The in-shadow judgement stands for the front segment as it is (R152). -/
def ShadowCurrent (s : State) : Prop :=
  ∀ n r, s.prof.front = some n → s.prof.frontRec = some r → s.vlu.judgedFront = some n ∧ s.vlu.inShadow = r.shadow

/-- The result a receipt of an accepted frame names, none for HEARTBEAT and TEXT (R151): a RESTRICTION_SET finds the list
full where eight others are held, a RESTRICTION_LIFT may name an identifier that is not held. -/
def receiptDue (s : State) : Frame → Option ReceiptResult
  | .authority _ _ _ _ _ => some .done
  | .restrictionSet r =>
    some (if holdsIdent s.vlu.restrictions r.ident = false ∧ 8 ≤ s.vlu.restrictions.length then .listFull else .done)
  | .restrictionLift i => some (if holdsIdent s.vlu.restrictions i = true then .done else .notHeld)
  | .stopOrder => some .done
  | .stopRelease => some .done
  | .permit _ _ _ _ => some .done
  | .heartbeat => none
  | .text => none

/-- The units a command brings as the end of a reception (R143). -/
def frameUnits : Instr → Option (List Half)
  | .frameRejected us _ => some us
  | .authority us => some us
  | .restrictionSet us => some us
  | .restrictionLift us => some us
  | .stopOrder us => some us
  | .stopRelease us => some us
  | .entrancePermit us => some us
  | .heartbeat us => some us
  | .text us => some us
  | .repeatFrame us => some us
  | _ => none

/-! ### The Supervisor's evaluation -/

/-- A value that takes part in the current limit: the limit of a PRESENT segment the car occupies, of a restriction it
covers while its position is known, or a ceiling in force (R78, R79). -/
def LimitPresent (s : State) (x : Nat) : Prop :=
  (∃ e ∈ s.prof.window, ∃ r, s.prof.entryRec e = some r ∧ (r.start : Int) ≤ s.motion.position
      ∧ s.lowPoint ≤ (r.stop : Int) - 1 ∧ x = r.limitFor s.sup.direction)
    ∨ (s.motion.posState ≠ .unknown ∧ ∃ r ∈ s.vlu.restrictions, r.first ≤ s.motion.position ∧ s.lowPoint ≤ r.last
        ∧ r.scope.covers s.sup.direction = true ∧ x = r.limit)
    ∨ ((s.vlu.radio = .lost ∨ s.vlu.overfull = true) ∧ x = Cfg.lostLinkCeiling s.cfg)
    ∨ (s.motion.posState = .unknown ∧ x = Cfg.unknownPositionCeiling s.cfg)
    ∨ ((s.motion.posState = .provisional ∨ s.motion.posState = .doubtful) ∧ x = Cfg.doubtfulCeiling s.cfg)
    ∨ (s.unknownSegment = true ∧ x = Cfg.unknownSegmentCeiling s.cfg)

/-- A target of a kind is to be formed at a point with a speed (R81). -/
def TargetFormed (s : State) (w : Way) (k : TargetKind) (p : Int) (vt : Nat) : Prop :=
  match k with
  | .segmentLimit => ∃ i q r, s.seenRun[i]? = some q ∧ s.seenRun[i + 1]? = some r ∧ r.limitFor w.dir < q.limitFor w.dir
      ∧ p = r.nearEnd w ∧ vt = r.limitFor w.dir
  | .restriction => ∃ r ∈ s.vlu.restrictions, r.scope.covers w.dir = true ∧ 0 < s.distanceTo w (r.nearEdge w)
      ∧ p = r.nearEdge w ∧ vt = r.limit
  | .authorityEnd => vt = 0 ∧ ∃ a, s.vlu.authority = some a ∧ a.way = w ∧ p = a.limit
  | .expiry => vt = 0 ∧ ∃ a q, s.vlu.authority = some a ∧ a.way = w ∧ a.expired = true ∧ a.expiry = some q ∧ p = q
  | .noAuthority => vt = 0 ∧ p = s.frontPoint ∧ ∀ a, s.vlu.authority = some a → a.way ≠ w
  | .windowEnd => vt = 0 ∧ p = s.seenEnd w
      ∧ (s.seenShort = true ∨ s.prof.endKind ∈ [EndKind.lineEnd, .undecided, .pending, .unavailable, .bad])

/-- The deceleration in force for a point (R82): the lowest among the classes of the segments the front passes on its way,
the front segment's own, and the smallest of the table where the point lies beyond the seen end; the smallest of the table
where the front segment is not PRESENT. -/
def DecelerationInForce (s : State) (w : Way) (p : Int) (a : Nat) : Prop :=
  match s.seenRun with
  | [] => a = Cfg.smallestDeceleration s.cfg
  | f :: rs =>
    (s.distanceTo w p ≤ 0 → a = s.decelerationOf w f)
    ∧ (0 < s.distanceTo w p →
      a ≤ s.decelerationOf w f ∧ (∀ r ∈ rs, r.passedTo w p = true → a ≤ s.decelerationOf w r)
      ∧ (s.beyondSeen w p = true → a ≤ Cfg.smallestDeceleration s.cfg)
      ∧ (a = s.decelerationOf w f ∨ (∃ r ∈ rs, r.passedTo w p = true ∧ a = s.decelerationOf w r)
          ∨ (s.beyondSeen w p = true ∧ a = Cfg.smallestDeceleration s.cfg)))

/-- A target the car is too fast for has a slack below a bound (R83). -/
def SlackUnder (s : State) (x : Int) : Prop := ∃ t ∈ s.sup.targets, t.speed < s.motion.speed ∧ t.slack < x

/-- A target of a kind that the car is too fast for has a slack below the overrun allowance (R84). -/
def Overruns (s : State) (k : TargetKind) : Prop :=
  ∃ t ∈ s.sup.targets, t.kind = k ∧ t.speed < s.motion.speed ∧ t.slack < -(Cfg.overrunAllowance s.cfg : Int)

/-- A trip condition of the Supervisor's own (R84); while the position is UNKNOWN the authority's end is not placed
(log 20). -/
def OwnCause (s : State) (c : Cause) : Prop :=
  match c with
  | .overspeed => s.sup.limit + Cfg.tripMargin s.cfg < s.motion.speed
  | .authorityOverrun =>
    (∃ a, s.vlu.authority = some a ∧ a.way.dir = s.sup.direction ∧ s.motion.posState ≠ .unknown
        ∧ s.distanceTo a.way a.limit < 0)
      ∨ Overruns s .authorityEnd ∨ Overruns s .noAuthority
  | .expiryOverrun => Overruns s .expiry
  | _ => False

/-- The supervision state decided as for NORMAL (R85), by the conditions of R84. -/
def DecidedAsNormal (s : State) (st : SupState) : Prop :=
  (s.sup.limit + Cfg.interveneMargin s.cfg < s.motion.speed ∨ SlackUnder s 0 → st = .service)
    ∧ (¬(s.sup.limit + Cfg.interveneMargin s.cfg < s.motion.speed ∨ SlackUnder s 0) →
      (s.sup.limit < s.motion.speed ∨ SlackUnder s (Cfg.warnDistance s.cfg) → st = .warn)
      ∧ (¬(s.sup.limit < s.motion.speed ∨ SlackUnder s (Cfg.warnDistance s.cfg)) → st = .normal))

/-! ### The route window -/

/-- The end kind of a window is that of a stopping condition that holds (R10). Of several, the state of a last entry not
PRESENT goes first and the others in the order of R10's table; that order, COUNT at 14 entries and LINE_END at a link back into
the window are the model's choices (log 17). -/
def EndKindHolds (s : State) : Prop :=
  (∀ e, s.prof.window.getLast? = some e →
    (e.state = .filling → s.prof.endKind = .pending) ∧ (e.state = .unavailable → s.prof.endKind = .unavailable)
      ∧ (e.state = .bad → s.prof.endKind = .bad))
  ∧ ∀ r, s.prof.lastRec = some r →
    ((s.neededDistance : Int) ≤ r.distanceToEnd s.orient s.frontPoint → s.prof.endKind = .distance)
    ∧ (r.distanceToEnd s.orient s.frontPoint < s.neededDistance →
      (8 ≤ s.prof.aheadCount ∨ 14 ≤ s.prof.window.length → s.prof.endKind = .count)
      ∧ (s.prof.aheadCount < 8 → s.prof.window.length < 14 →
        match r.follow s.orient s.branchChoice with
        | .lineEnd => s.prof.endKind = .lineEnd
        | .undecided => s.prof.endKind = .undecided
        | .seg n _ => (s.prof.entryOf n).isSome = true ∧ s.prof.endKind = .lineEnd))

/-- The reference segment is lost with a reason (R12, R73): PROFILE_GAP with the position and the track before it, the
window empty, the position UNKNOWN. -/
def ReferenceLost (s t : State) (r : Reason) : Prop :=
  t.prof.refSeg = none ∧ t.prof.window = [] ∧ t.prof.endKind = .none ∧ t.prof.loopTaken = .none ∧ t.motion.posState = .unknown
    ∧ t.motion.track = none
    ∧ Group.notice ⟨0x0403, 4, .warn, wordOf s.motion.position, wordOf (trackCode s.motion.track + 2 ^ 8 * r.code), 0⟩
        ∈ t.path.handed

/-! ### Release -/

/-- A side has release (R122): the four conditions, with a station grant or a permit grant. -/
def SideHasRelease (s : State) (side : Side) : Prop :=
  s.motion.standstill = true ∧ s.rbc.state = .applied ∧ s.run.runState = .run ∧ s.motion.posState ≠ .unknown
    ∧ ((∃ r, s.prof.frontRec = some r ∧ r.station = true ∧ r.start + r.stopOffset ≤ s.motion.position
          ∧ s.motion.position < r.start + r.stopOffset + r.stopLength ∧ (r.side = some .both ∨ r.side = some side))
      ∨ ∃ p, s.vlu.permit = some p ∧ (p.side = .both ∨ p.side = side) ∧ p.first ≤ s.motion.position
          ∧ s.motion.position ≤ p.last)

/-- Both release flags stand as R122 judges them. -/
def FlagsJudged (s : State) : Prop :=
  (s.ent.releaseLeft = true ↔ SideHasRelease s .left) ∧ (s.ent.releaseRight = true ↔ SideHasRelease s .right)

/-- A judgement made in an event (R123, R126): the flags stand as judged, and of the entrances exactly those with a held
request on a side that has gained release have begun UNLOCKING. -/
def ReleaseJudged (s t : State) : Prop :=
  FlagsJudged t ∧ ∀ e,
    ((s.entrance e).held = true → s.released? e = false → t.released? e = true → (s.entrance e).closedLocked = true →
      t.entrance e = { s.entrance e with
        state := .unlocking, held := false, attempts := 0, motionTimer := some s.now, settle := none })
    ∧ ((s.entrance e).held = false ∨ s.released? e = true ∨ t.released? e = false → t.entrance e = s.entrance e)

/-! ### Invariants -/

/-- Memory is in its canonical form: rising addresses inside 16 MiB, no cell at the default. -/
def MemoryCanonical (s : State) : Prop := Memory.wf s.mem = true

/-- The bounds of the Motion Unit: the position (R59), the speeds (R62), D (R65), the rollback count (R66). -/
def MotionBounds (s : State) : Prop :=
  s.motion.position ≤ 199999 ∧ s.motion.rollback ≤ 3 ∧ -3 ≤ s.motion.difference ∧ s.motion.difference ≤ 3
    ∧ s.motion.speeds.a ≤ 600 ∧ s.motion.speeds.b ≤ 600 ∧ s.motion.speeds.w ≤ 600 ∧ s.motion.speed ≤ 600

/-- In UNKNOWN there is no window, no reference segment and no rebuild that waits (R12, R73). -/
def UnplacedInv (s : State) : Prop :=
  s.motion.posState = .unknown → s.prof.window = [] ∧ s.prof.refSeg = none ∧ s.prof.rebuild = none

/-- The bounds of the valley records: at most 8 restrictions and no two with one identifier (R147), at most 4 receipts
(R151). -/
def LinkBounds (s : State) : Prop :=
  s.vlu.restrictions.length ≤ 8 ∧ (s.vlu.restrictions.map Restriction.ident).Nodup ∧ s.vlu.receipts.length ≤ 4

/-- An index that an entry puts into a ring's header lies in the ring: 64 slots of NOTICE, 16 of INBOUND and OUTBOUND. -/
def IndexInRing : QEntry → Prop
  | .write _ _ (.noticeProducer v) => v < 64
  | .write _ _ (.inboundProducer v _) => v < 16
  | .write _ _ (.outboundConsumer v) => v < 16
  | _ => True

/-- The indices that a group puts into headers lie in their rings. -/
def Group.IndicesInRing : Group → Prop
  | .notice _ => True
  | .inboundCopy _ es => ∀ e ∈ es, IndexInRing e
  | .completion _ es => ∀ e ∈ es, IndexInRing e
  | .accesses es => ∀ e ∈ es, IndexInRing e

/-- The indices of the three rings: the allocated and the published producer and the consumer copy of NOTICE (R170, R172); the
producer, the producer as written and the consumer copy of INBOUND (R150, R170); the consumer, the consumer as written and the
producer copy of OUTBOUND (R153, R171). -/
def IndicesInRings (s : State) : Prop :=
  s.path.allocated < 64 ∧ s.path.published < 64 ∧ s.path.noticeConsumer < 64
    ∧ s.vlu.inboundProducer < 16 ∧ s.path.inboundWritten < 16 ∧ s.path.inboundConsumer < 16
    ∧ s.vlu.outboundConsumer < 16 ∧ s.path.outboundWritten < 16 ∧ s.path.outboundProducer < 16

/-- The bounds of the memory path: 8 entries in the insert queue (R168), a passed-over count of 8 (R169), the ring indices, those
still on their way to memory among them, a dropped-notice count of 65 535 (R172); nothing waits for a free port, and no handed
group is left over. -/
def PathBounds (s : State) : Prop :=
  s.path.queue.length ≤ 8 ∧ s.path.passedOver ≤ 8 ∧ IndicesInRings s
    ∧ (∀ e ∈ s.path.queue ++ s.path.entering, IndexInRing e) ∧ (∀ g ∈ s.path.waiters, Group.IndicesInRing g)
    ∧ s.path.dropped ≤ 65535 ∧ PortIdle s ∧ Settled s

/-- The shape of the cache: 16 sets of 4 ways (R5). -/
def CacheShape (s : State) : Prop := s.prof.cache.length = 16 ∧ ∀ ls ∈ s.prof.cache, ls.length = 4

/-- The cache and what stands for it. The shape: 16 sets of 4 ways, a valid line in the set of its tag, no two valid lines
of one segment (R5). The fills: none waits twice or waits while it is in flight, and none is known for a segment that is
valid in the cache (R6). The window: at most 14 entries, no two of one segment, the line of a PRESENT one valid and pinned
(R8, R9). -/
def CacheInv (s : State) : Prop :=
  CacheShape s
    ∧ (∀ k ls, s.prof.cache[k]? = some ls →
        (∀ l ∈ ls, l.valid = true → l.tag % 16 = k) ∧ ((ls.filter CacheLine.valid).map CacheLine.tag).Nodup)
    ∧ s.rfc.fills.Nodup ∧ (∀ n d, s.rfc.inFlight = some (.fill n d) → n ∉ s.rfc.fills)
    ∧ (∀ n, s.rfc.fillKnown n = true → s.prof.lineOf n = none)
    ∧ s.prof.window.length ≤ 14 ∧ (s.prof.window.map Entry.seg).Nodup
    ∧ ∀ e ∈ s.prof.window, e.state = .present → ∃ l, s.prof.lineOf e.seg = some l ∧ l.pinned = true

/-- A step of the current flash operation has its transaction on the link. -/
def StepOnLink (r : RfcUnit) (c : CurrentFlash) : Prop :=
  match c.step with
  | .readMoving => ∃ moved part, r.inFlight = some (.serviceRead moved part) ∧ part.length ≤ 3 ∧ moved ≤ c.op.count
  | .enableMoving => r.inFlight = some .writeEnable
  | .writeMoving => r.inFlight = some (if c.op.kind = .program then .program else .erase)
  | .pollMoving => r.inFlight = some .statusPoll
  | _ => r.inFlight = none ∨ (∃ n d, r.inFlight = some (.fill n d)) ∨ ∃ k, r.inFlight = some (.configRead k)

/-- The arbiter of the Route Flash Controller (R26, R30). The active-fill flag stands for a FILL on the link; under lockout
SET none is on it, and a WAITING lockout waits for one; what is on the link is the transaction of the step of the current
operation, or a FILL or a CONFIG_READ that no step has on it. -/
def ArbiterInv (s : State) : Prop :=
  (s.rfc.activeFill = true ↔ ∃ n d, s.rfc.inFlight = some (.fill n d))
    ∧ (s.rfc.lockout = .set → s.rfc.activeFill = false)
    ∧ (s.rfc.lockout = .waiting → s.run.runState ≠ .configFault → s.rfc.activeFill = true)
    ∧ (∀ c, s.rfc.current = some (.flash c) →
        (c.op.kind = .read ↔ c.step = .readReady ∨ c.step = .readMoving) ∧ StepOnLink s.rfc c)
    ∧ (∀ n, s.rfc.current = some (.serviceFill n) → s.rfc.activeFill = true)
    ∧ (s.rfc.current = none → s.rfc.inFlight = none ∨ (∃ n d, s.rfc.inFlight = some (.fill n d))
        ∨ ∃ k, s.rfc.inFlight = some (.configRead k))

/-- The traction output never exceeds the ceiling, and the ceiling is 0 unless the authority is VALID, the direction
word is the authority's direction and the rack brake is RELEASED (R91). -/
def TractionSafe (s : State) : Prop :=
  s.sup.output ≤ s.sup.ceiling
    ∧ (s.sup.ceiling ≠ 0 → ∃ a, s.vlu.authority = some a ∧ a.expired = false ∧ a.way.dir = s.sup.direction
        ∧ s.rbc.state = .released)

/-- `TractionSafe` with the accepted value that the output follows, and a ceiling of 0 while the part is not in
service. -/
def TractionInv (s : State) : Prop :=
  TractionSafe s ∧ s.sup.output ≤ s.sup.traction ∧ (s.inService = false → s.sup.ceiling = 0)

/-- While the part is in service, a car that is not at standstill with an entrance not secured is in TRIP (R134). -/
def EntranceSafe (s : State) : Prop :=
  s.inService = true → s.motion.standstill = false → s.allSecured = false → s.sup.state = .trip

/-- `EntranceSafe` with what a release flag needs: standstill (R122). -/
def EntranceInv (s : State) : Prop :=
  EntranceSafe s ∧ (s.ent.releaseLeft = true ∨ s.ent.releaseRight = true → s.motion.standstill = true)

/-! ### Fills, walks and searches -/

/-- The record a FILL brings passes the checks of R3 and R4. -/
def PassesChecks (s : State) (n : Nat) (data : List Byte) (r : Segment) : Prop :=
  r = Segment.ofBytes (takeBytes 32 data) ∧ recordReason (takeBytes 32 data) n (Cfg.segmentCount s.cfg) = none
    ∧ s.prof.discontinuous r = none

/-- The record a FILL brings fails a check, with its reason (R3, R4). -/
def FailsChecks (s : State) (n : Nat) (data : List Byte) (why : Reason) : Prop :=
  recordReason (takeBytes 32 data) n (Cfg.segmentCount s.cfg) = some why
    ∨ (recordReason (takeBytes 32 data) n (Cfg.segmentCount s.cfg) = none
      ∧ s.prof.discontinuous (Segment.ofBytes (takeBytes 32 data)) ≠ none ∧ why = .continuity)

/-- The record of segment `n` arrives, passes its checks and finds a way for it (R7). -/
def ArrivesPlaced (s : State) (n : Nat) (data : List Byte) (r : Segment) : Prop :=
  s.rfc.inFlight = some (.fill n false) ∧ n ∉ s.rfc.uncached ∧ PassesChecks s n data r ∧ CacheInv s
    ∧ ∃ l ∈ s.prof.setOf n, l.valid = false ∨ l.pinned = false

/-- The position is set from nothing at `x` by the record `r` of segment `n` (R71, R72): the search and the walk are over; in
range the state is `st`, out of range the position is held and DOUBTFUL (R59), unless the rebuild loses the reference segment
(R12, R73). Where the record holds the position it is not lost, and where no other cached record holds it, the reference
segment is `n` and the track is the one given. -/
def PlacedAt (t : State) (n : Nat) (r : Segment) (x : Int) (track : Track) (st : PosState) : Prop :=
  t.prof.walk = none ∧ t.prof.search = none ∧ t.motion.pendingCount = none
    ∧ (t.motion.position : Int) = max 0 (min 199999 x)
    ∧ (t.motion.posState = .unknown → t.prof.refSeg = none ∧ t.prof.window = [] ∧ t.motion.track = none)
    ∧ (t.motion.posState ≠ .unknown → t.prof.refSeg.isSome = true
        ∧ t.motion.posState = if 0 ≤ x ∧ x ≤ 199999 then st else .doubtful)
    ∧ (r.holds t.motion.position = true → t.motion.posState ≠ .unknown ∧ t.prof.window ≠ [])
    ∧ (r.holds t.motion.position = true →
        (∀ l ∈ t.prof.validLines, l.tag ≠ n → (Segment.ofBytes l.bytes).holds t.motion.position = false) →
        t.prof.refSeg = some n ∧ t.motion.track = some track)

/-- The walk to `p` on a track has failed with a reason (R16, R72): PROFILE_GAP, the position as it was, UNKNOWN. -/
def WalkFailed (s t : State) (p : Nat) (track : Track) (why : Reason) : Prop :=
  t.prof.walk = none ∧ t.motion.pendingCount = none ∧ t.motion.posState = .unknown ∧ t.motion.position = s.motion.position
    ∧ Group.notice ⟨0x0403, 4, .warn, wordOf p, wordOf (trackCode (some track) + 2 ^ 8 * why.code), 0⟩ ∈ t.path.handed

/-! ### Tooth events -/

/-- The inputs of a channel complete a tooth event in service, in a sense (R43, R44). -/
def MakesToothEvent (s : State) (c : Channel) (i1 i2 : InputLevel) (w : Way) : Prop :=
  let h := s.tooth.get c
  let p1 := comparator (Cfg.hysteresis s.cfg (phaseIndex c)) h.comp1 i1 != Cfg.inverted s.cfg (phaseIndex c)
  let p2 := comparator (Cfg.hysteresis s.cfg (phaseIndex c + 1)) h.comp2 i2 != Cfg.inverted s.cfg (phaseIndex c + 1)
  let turn := (phaseCode p1 p2 + 4 - phaseCode h.phase1 h.phase2) % 4
  s.inService = true ∧ turn = (match w with | .up => 1 | .down => 3) ∧ 4 ≤ (h.steps + w.delta).natAbs

end Sys2Proof.Safety
end

