-- ==== Sys2Proof/Certificates/Slice0/Obligations.lean ====
section
/-! DEFINITION. The statements for the provers. Each says what the part does at an event, for every state and operand
that meets the hypotheses; the text beside each in OBLIGATIONS.json names the rules. -/

open Sys2Proof Sys2Proof.Machine Sys2Proof.Safety

/-! ### The machine -/

/-- A step carries out the command at the front of the queue on the state with the queue's rest; on an empty queue it is
one millisecond of the time base (R35; that a step is a tick is the model's choice, log 2), before which the groups that wait
and can enter have entered, so that none is stamped late (R168, R172, log 9). -/
def Obligations.StepRunsTheFrontCommand : Prop :=
  (∀ (c : Instr) (rest : List Instr) (s : State), step (s.withPending (c :: rest)) = exec c (s.withPending rest))
  ∧ ∀ s : State, s.pending = [] →
    (∃ t, step s = .next t ∧ t.run.runState = s.run.runState ∧ t.run.timeBase = s.run.timeBase + 1
      ∧ EntryKeeps { s with run := t.run } t ∧ t.run.completing = s.waitersEnter.run.completing
      ∧ t.path = s.waitersEnter.path ∧ t.mem = s.waitersEnter.mem)
    ∧ (Settled s → s.path.waiters = [] ∨ s.path.entering ≠ [] ∨ 8 ≤ s.path.queue.length →
        step s = .next { s with run := { s.run with timeBase := s.run.timeBase + 1 } })

/-- Every command leaves a next state, and leaves the queue of waiting commands as it was (the model is total, log 8). -/
def Obligations.EveryCommandCompletesAndLeavesTheQueue : Prop :=
  ∀ (c : Instr) (s : State), ∃ t, exec c s = .next t ∧ t.pending = s.pending

/-- What the spec gives right after reset: LOADING at time 0, no position, standstill clear, NONE, 0 and APPLIED; every
entrance without timers, marks and release, every tooth channel without a step, an event, an error or an armed flag. That
the closed-locked inputs read true, so that each entrance is CLOSED_LOCKED, is the model's choice (log 3). -/
def Obligations.ResetStandsInLoading : Prop :=
  State.reset.run.runState = .loading ∧ State.reset.run.timeBase = 0
    ∧ State.reset.sup.state = .normal ∧ State.reset.sup.direction = .none ∧ State.reset.sup.traction = 0
    ∧ State.reset.sup.output = 0 ∧ State.reset.sup.ceiling = 0 ∧ State.reset.sup.causes = []
    ∧ State.reset.rbc.state = .applied ∧ State.reset.rbc.setpointA = 0 ∧ State.reset.rbc.setpointB = 0
    ∧ State.reset.motion.posState = .unknown ∧ State.reset.motion.position = 0 ∧ State.reset.motion.standstill = false
    ∧ State.reset.scan.meas = .notChecked ∧ State.reset.vlu.link = .stopped ∧ State.reset.vlu.radio = .notHeard
    ∧ State.reset.vlu.authority = none ∧ State.reset.vlu.restrictions = [] ∧ State.reset.prof.window = []
    ∧ State.reset.rfc.lockout = .clear ∧ State.reset.path.queue = [] ∧ State.reset.path.map = none
    ∧ State.reset.pending = [] ∧ State.reset.tripLine = false ∧ State.reset.attnLine = false
    ∧ (∀ e, (State.reset.entrance e).closedLocked = true ∧ (State.reset.entrance e).state = .closedLocked
        ∧ (State.reset.entrance e).motionTimer = none ∧ (State.reset.entrance e).settle = none
        ∧ (State.reset.entrance e).held = false ∧ (State.reset.entrance e).attempts = 0
        ∧ (State.reset.entrance e).autoClose = false ∧ (State.reset.entrance e).rewriteWaiting = false)
    ∧ State.reset.ent.releaseLeft = false ∧ State.reset.ent.releaseRight = false
    ∧ ∀ c, (State.reset.tooth.get c).steps = 0 ∧ (State.reset.tooth.get c).lastEvent = none
        ∧ (State.reset.tooth.get c).phaseError = false ∧ (State.reset.tooth.get c).armed = false

/-- The power-on reset input: the part is in LOADING at time 0 with its first CONFIG_READ in flight, every unit is as
after reset, the entrances' timers, marks, counts and release flags and the tooth channels' counts, events, errors and
armed flags among them (R40). The pins and memory stand, each entrance's state and each phase state following its inputs,
and the buffers are zero: that is the model's choice (log 3, log 5), as is LSELM taken as released (log 37). -/
def Obligations.PowerOnResetReturnsEveryUnit : Prop :=
  ∀ s : State, ∃ t, exec .powerOnReset s = .next t
    ∧ t.run = State.reset.run ∧ t.path = State.reset.path ∧ t.rfc = State.reset.rfc ∧ t.prof = State.reset.prof
    ∧ t.scan = State.reset.scan ∧ t.motion = State.reset.motion ∧ t.sup = State.reset.sup ∧ t.rbc = State.reset.rbc
    ∧ t.vlu = State.reset.vlu ∧ t.mem = s.mem ∧ t.freeIndex = s.freeIndex ∧ t.pending = s.pending
    ∧ t.rfc.inFlight = some (.configRead 0)
    ∧ (∀ e, t.entrance e =
        { state := if (s.entrance e).closedLocked then .closedLocked else .ajar
          motionTimer := none, settle := none, held := false, heldTime := 0, attempts := 0, autoClose := false
          rewriteWaiting := false, closedLocked := (s.entrance e).closedLocked, openEnd := (s.entrance e).openEnd
          obstruction := (s.entrance e).obstruction })
    ∧ t.ent.releaseLeft = false ∧ t.ent.releaseRight = false
    ∧ ∀ c, t.tooth.get c =
        { comp1 := (s.tooth.get c).comp1, comp2 := (s.tooth.get c).comp2, phase1 := (s.tooth.get c).comp1
          phase2 := (s.tooth.get c).comp2, steps := 0, lastEvent := none, phaseError := false, armed := false }

/-! ### Invariants of a step -/

/-- At reset every invariant below holds. -/
def Obligations.ResetMeetsEveryInvariant : Prop :=
  MemoryCanonical State.reset ∧ MotionBounds State.reset ∧ UnplacedInv State.reset ∧ LinkBounds State.reset ∧ PathBounds State.reset
    ∧ CacheInv State.reset ∧ ArbiterInv State.reset ∧ TractionInv State.reset ∧ EntranceInv State.reset

/-- Every step keeps memory in its canonical form (log 4); and every step keeps the bounds of the insert queue and of the counts,
each of the nine indices of the three rings below its ring's slots (R150, R153, R170 to R172), those of the writes still on
their way to memory among them, leaves nothing waiting for a free port and no handed group that has neither entered nor joined
the waiters (R168, R169). -/
def Obligations.EveryStepKeepsMemoryAndThePathInBounds : Prop :=
  (∀ s t : State, MemoryCanonical s → step s = .next t → MemoryCanonical t)
  ∧ ∀ s t : State, PathBounds s → step s = .next t → PathBounds t

/-- Every step keeps the position, the speeds and the counts of the Motion Unit in their ranges, and in UNKNOWN leaves no
window, no reference segment and no rebuild that waits (R12, R73). -/
def Obligations.EveryStepKeepsTheMotionBounds : Prop :=
  (∀ s t : State, MotionBounds s → step s = .next t → MotionBounds t)
  ∧ ∀ s t : State, UnplacedInv s → step s = .next t → UnplacedInv t

/-- Every step keeps the restriction list at most 8 long with no identifier twice (R147) and at most 4 receipts (R151). -/
def Obligations.EveryStepKeepsTheListsInShape : Prop :=
  ∀ s t : State, LinkBounds s → step s = .next t → LinkBounds t

/-- Every step keeps the cache and what stands for it: 16 sets of 4 ways, each valid line in the set of its tag, no two of
one segment (R5); no fill known twice or for a segment that is valid (R6); at most 14 window entries, no two of one segment,
the line of a PRESENT one valid and pinned (R8, R9). And a FILL replaces no line of a PRESENT entry (R7): it is valid
afterwards with its bytes. -/
def Obligations.EveryStepKeepsTheCache : Prop :=
  (∀ s t : State, CacheInv s → step s = .next t → CacheInv t)
  ∧ ∀ (s : State) (data : List Byte), CacheInv s →
      ∃ t : State, exec (.fill data) s = .next t.entered
        ∧ ∀ e ∈ s.prof.window, e.state = .present → ∀ l, s.prof.lineOf e.seg = some l →
            ∃ l', t.prof.lineOf e.seg = some l' ∧ l'.bytes = l.bytes

/-- Every step keeps the arbiter of the route flash link (R26, R30): the active-fill flag stands for a FILL on the link,
under lockout SET none is on it, a WAITING lockout waits for one, and what is on the link is the transaction of the current
operation's step, or a FILL or CONFIG_READ that no step has on it; a FLASH_READ never has a WRITE_ENABLE, PROGRAM, ERASE or
poll. -/
def Obligations.EveryStepKeepsTheArbiter : Prop :=
  ∀ s t : State, ArbiterInv s → step s = .next t → ArbiterInv t

/-- In every step the traction output stays at or below a ceiling that is 0 unless the authority is VALID, the
direction agrees and the rack brake is RELEASED. -/
def Obligations.TractionNeverExceedsItsCeiling : Prop :=
  ∀ s t : State, TractionInv s → step s = .next t → TractionInv t

/-- In every step a car in service that is not at standstill with an entrance not secured is in TRIP. -/
def Obligations.MovingWithAnOpenEntranceIsATrip : Prop :=
  ∀ s t : State, EntranceInv s → step s = .next t → EntranceInv t

/-! ### The memory path -/

/-- A write that passes reaches memory when the port is granted: the enabled bytes of its word and no other change; with
the port busy it waits, and memory stands. A read outside the IMAGE window gives the word memory holds and changes no byte
(R165, R169). -/
def Obligations.PassingAccessReachesMemory : Prop :=
  ∀ (s : State) (m : WindowMap) (addr : Addr) (lanes : Lanes) (data : Word), Serving s m → PortIdle s →
    (Passes s m addr → MemoryCanonical s →
      ∃ t, exec (.plainMemoryAccess addr lanes true data) s = .next t
        ∧ (s.path.portBusy = false →
            t = { s with
              mem := t.mem
              path := { s.path with portBusy := true } }
            ∧ ∀ a, Memory.read t.mem a =
                if wordBase addr ≤ a ∧ a < wordBase addr + 4 ∧ lanes.getLsbD (a - wordBase addr) = true then
                  byteOfWord data (a - wordBase addr)
                else Memory.read s.mem a)
        ∧ (s.path.portBusy = true →
            t = { s with path := { s.path with access := some ⟨addr, lanes, true, data⟩ } }))
    ∧ ((∀ w, classify m addr ≠ .image w) → s.path.portBusy = false →
      exec (.plainMemoryAccess addr lanes false data) s =
        .next { s with path := { s.path with portBusy := true, busData := Memory.readWord s.mem addr } })

/-- A write that is absorbed before any owner is asked queues WRITE_REFUSED with its reason, and changes nothing else
(R166). In LOADING an access is held; in CONFIG_FAULT it passes to memory whatever it addresses (R36, R39). -/
def Obligations.WritesAreAbsorbedHeldOrPassed : Prop :=
  (∀ (s : State) (m : WindowMap) (addr : Addr) (lanes : Lanes) (data : Word) (r : Reason),
    Serving s m → absorbReason s m addr lanes = some r →
      exec (.absorbedWrite addr lanes data) s = .next (absorbed s addr lanes data r).entered)
  ∧ ∀ (s : State) (addr : Addr) (lanes : Lanes) (w : Bool) (data : Word),
    s.path.held = none → s.path.access = none → Settled s →
      (s.run.runState = .loading →
        exec (.plainMemoryAccess addr lanes w data) s =
          .next { s with path := { s.path with held := some ⟨addr, lanes, w, data⟩ } })
      ∧ (s.run.runState = .configFault → s.path.portBusy = false → s.path.queue = [] →
          (exec (.plainMemoryAccess addr lanes true data) s =
            .next { s with
              mem := Memory.writeLanes s.mem addr lanes data
              path := { s.path with portBusy := true } })
          ∧ exec (.imageRead addr lanes) s =
              .next { s with path := { s.path with portBusy := true, busData := Memory.readWord s.mem addr } })

/-- An image read is answered from the units as they stand at the read, without memory and without the port (R178). Each of the
words is spelled by the layout of 11.5, the codes of the enumerations as there; the words from 20 on read 0. That word 12 leaves
off a part of a second is the model's choice (log 16). -/
def Obligations.ImageReadSamplesTheUnits : Prop :=
  ∀ (s : State) (m : WindowMap) (addr : Addr) (lanes : Lanes) (w : Nat),
    Serving s m → classify m addr = .image w →
      exec (.imageRead addr lanes) s = .next { s with path := { s.path with busData := s.imageWord w } }
      ∧ (w = 0 → s.imageWord w = wordOf (s.run.runState.code + 2 ^ 8 * s.sup.state.code))
      ∧ (w = 1 → s.imageWord w = s.now)
      ∧ (w = 2 → s.imageWord w = wordOf ((s.sup.firstCause.map Cause.code).getD 0))
      ∧ (w = 3 → ∀ i, (s.imageWord w).getLsbD i = true ↔ ∃ c ∈ s.sup.causes, c.code = i + 1)
      ∧ (w = 4 → s.imageWord w = wordOf (s.sup.limit + 2 ^ 16 * s.sup.ceiling))
      ∧ (w = 5 → s.imageWord w =
          wordOf (s.motion.speed + 2 ^ 16 * s.motion.movement.code + 2 ^ 24 * (if s.motion.standstill then 1 else 0)))
      ∧ (w = 6 → s.imageWord w = wordOf s.motion.position)
      ∧ (w = 7 → s.imageWord w = wordOf (s.motion.posState.code + 2 ^ 8 * trackCode s.motion.track))
      ∧ (w = 8 → s.imageWord w = wordOf (s.prof.front.getD 0xFFFF + 2 ^ 16 * s.prof.loopTaken.code + 2 ^ 24 * s.prof.endKind.code))
      ∧ (w = 9 →
          let ahead := match s.prof.front with
            | none => 0
            | some n => (s.prof.window.dropWhile fun e => e.seg != n).length - 1
          s.imageWord w = wordOf (s.prof.window.length + 2 ^ 8 * ahead
            + 2 ^ 16 * (s.prof.window.filter fun e => decide (e.state ≠ .present)).length
            + 2 ^ 24 * (if s.prof.rearUnresolved then 1 else 0)))
      ∧ (w = 10 → (s.vlu.authority = none → s.imageWord w = 0)
          ∧ ∀ a, s.vlu.authority = some a → s.imageWord w =
              wordOf ((if a.expired then 2 else 1) + 2 ^ 8 * a.choice.code + 2 ^ 16 * a.way.code))
      ∧ (w = 11 → s.imageWord w = wordOf ((s.vlu.authority.map Authority.limit).getD 0))
      ∧ (w = 12 → (s.vlu.authority = none → s.imageWord w = 0)
          ∧ ∀ a, s.vlu.authority = some a →
              (a.expired = true ∨ reached s.now a.deadline = true → s.imageWord w = 0)
              ∧ (a.expired = false → reached s.now a.deadline = false → s.imageWord w = wordOf ((a.deadline - s.now).toNat / 1000)))
      ∧ (w = 13 → s.imageWord w = wordOf (s.vlu.radio.code + 2 ^ 8 * s.vlu.link.code + 2 ^ 16 * s.vlu.restrictions.length
          + 2 ^ 24 * (if s.vlu.overfull then 1 else 0) + 2 ^ 25 * (if s.vlu.permit.isSome then 1 else 0)))
      ∧ (w = 14 → s.imageWord w = wordOf (s.rbc.state.code + 2 ^ 16 * s.rbc.serviceOutput))
      ∧ (w = 15 → s.imageWord w = wordOfInt s.scan.last.pa.value)
      ∧ (w = 16 → s.imageWord w = wordOfInt s.scan.last.pb.value)
      ∧ (w = 17 →
          let byte (r : EntranceRec) := r.state.code + 128 * (if r.held then 1 else 0)
          s.imageWord w = wordOf (byte (s.entrance 0) + 2 ^ 8 * byte (s.entrance 1) + 2 ^ 16 * byte (s.entrance 2)
            + 2 ^ 24 * byte (s.entrance 3)))
      ∧ (w = 18 → s.imageWord w = if s.scan.meas = .valid then 1 else 0)
      ∧ (w = 19 → s.imageWord w =
          wordOf ((s.path.published + 64 - s.path.noticeConsumer) % 64 + 2 ^ 16 * s.path.dropped))
      ∧ (20 ≤ w → s.imageWord w = 0)

/-- A free port with nothing entering goes to the computer's access unless 8 have passed over the queue's oldest
entry, which is then granted (R169). A computer read gives the word to the data lines. A granted write of the part puts its
word into memory, and with it the slot is DONE and its BUSY rule ends (R90, R157, R176), the notice producer is published
(R172), the two ring indices of the governor stand as written, and a copied frame's buffer is free (R150, R170, R171). A
granted read returns its word: an operand to its slot (R175), data to the page buffer of a program, whose next word is then
read (R31), a word to the OUTBOUND slot being read (R153). A rewrite that leaves the queue carries the accepted value of that
moment, and is no longer waiting (R93, R104, R124, R168). What is stated is the port's own part; then what the grant hands enters,
and the waiting groups take the places that fall free (`State.served`, R168). -/
def Obligations.FreePortIsArbitrated : Prop :=
  (∀ s : State, s.path.entering = [] →
    (s.path.access = none → s.path.queue = [] →
      exec .memoryPortGrant s = .next (State.served { s with path := { s.path with portBusy := false } }))
    ∧ (∀ a, s.path.access = some a → s.path.queue = [] ∨ s.path.passedOver < 8 →
        let passed := if s.path.queue = [] then s.path.passedOver else s.path.passedOver + 1
        (a.isWrite = true → exec .memoryPortGrant s = .next (State.served { s with
          mem := Memory.writeLanes s.mem a.addr a.lanes a.data
          path := { s.path with access := none, portBusy := true, passedOver := passed } }))
        ∧ (a.isWrite = false → exec .memoryPortGrant s = .next (State.served { s with
          path := { s.path with
            access := none, portBusy := true, passedOver := passed, busData := Memory.readWord s.mem a.addr } }))))
  ∧ (∀ (s : State) (rest : List QEntry) (addr : Addr) (w : Word) (eff : WriteEffect), s.path.entering = [] →
    s.path.access = none ∨ 8 ≤ s.path.passedOver → s.path.queue = .write addr w eff :: rest →
      let mem := Memory.writeWord s.mem addr w
      let path := { s.path with queue := rest, portBusy := true, passedOver := 0 }
      (eff = .plain ∨ (∃ g, eff = .flashWord g) ∨ (∃ k, eff = .recordWord k) →
        exec .memoryPortGrant s = .next (State.served { s with mem := mem, path := path }))
      ∧ (∀ v, eff = .noticeProducer v → exec .memoryPortGrant s = .next (State.served { s with mem := mem, path := { path with published := v } }))
      ∧ (∀ v, eff = .outboundConsumer v →
          exec .memoryPortGrant s = .next (State.served { s with mem := mem, path := { path with outboundWritten := v } }))
      ∧ (∀ v, eff = .inboundProducer v none →
          exec .memoryPortGrant s = .next (State.served { s with mem := mem, path := { path with inboundWritten := v } }))
      ∧ (∀ v b, eff = .inboundProducer v (some b) → exec .memoryPortGrant s = .next (State.served { s with
          mem := mem, path := { path with inboundWritten := v }, vlu := s.vlu.setStage b .empty }))
      ∧ (∀ k g, eff = .slotDone k g →
          let r := s.path.slots.get k
          (r.state = .inFlight → r.goOrder = g → exec .memoryPortGrant s = .next (State.served { s with
            mem := mem
            path := { path with slots := s.path.slots.set k { r with state := .done } }
            sup := { s.sup with completing := if s.sup.completing = some k then none else s.sup.completing }
            run := { s.run with completing := if s.run.completing = some k then none else s.run.completing } }))
          ∧ (r.state ≠ .inFlight ∨ r.goOrder ≠ g → exec .memoryPortGrant s = .next (State.served { s with mem := mem, path := path }))))
  ∧ (∀ (s : State) (rest : List QEntry) (addr : Addr) (p : ReadPurpose), s.path.entering = [] →
    s.path.access = none ∨ 8 ≤ s.path.passedOver → s.path.queue = .read addr p :: rest →
      let w := Memory.readWord s.mem addr
      let path := { s.path with queue := rest, portBusy := true, passedOver := 0 }
      (∀ k g i, p = .operand k g i → (s.path.slots.get k).state = .inFlight → (s.path.slots.get k).goOrder = g →
        exec .memoryPortGrant s = .next (State.served { s with
          path := { path with slots := s.path.slots.set k ((s.path.slots.get k).setOperand i w) } }))
      ∧ (∀ g i c, p = .programData g i → s.rfc.current = some (.flash c) → c.step = .dataReading i → c.op.goOrder = g →
        exec .memoryPortGrant s = .next (State.served { s with
          rfc := { s.rfc with
            pageBuffer := s.rfc.pageBuffer.take (4 * i) ++ (List.range 4).map (byteOfWord w) ++ s.rfc.pageBuffer.drop (4 * i + 4)
            current := some (.flash { c with step := .dataReading (i + 1) }) }
          path := { path with handed := s.path.handed ++ if i + 1 < c.op.words then
            [.accesses [.read (addrOf (c.op.buffer + 4 * (i + 1))) (.programData g (i + 1))]] else [] } }))
      ∧ (∀ i r, p = .outboundWord i → s.vlu.reading = some r → r.words.length = i → exec .memoryPortGrant s = .next (State.served { s with
          path := path, vlu := { s.vlu with reading := some { r with words := r.words ++ [w] } } })))
  ∧ ∀ (s : State) (m : WindowMap) (rest : List QEntry),
    s.path.map = some m → s.path.entering = [] → s.path.access = none ∨ 8 ≤ s.path.passedOver →
      (s.path.queue = .rewrite .traction :: rest →
        ∃ t : State, exec .memoryPortGrant s = .next t.served
          ∧ t.mem = Memory.writeWord s.mem (addrOf (m.demand + 4)) (wordOf s.sup.traction)
          ∧ t.sup = { s.sup with rewriteWaiting := false })
      ∧ (s.path.queue = .rewrite .rackBrake :: rest →
        ∃ t : State, exec .memoryPortGrant s = .next t.served
          ∧ t.mem = Memory.writeWord s.mem (addrOf (m.demand + 8)) (wordOf s.rbc.word.code)
          ∧ t.rbc = { s.rbc with rewriteWaiting := false })
      ∧ (∀ e, s.path.queue = .rewrite (.entrance e) :: rest →
        ∃ t : State, exec .memoryPortGrant s = .next t.served
          ∧ t.mem = Memory.writeWord s.mem (addrOf (m.entrance + 4 * e.val)) 0
          ∧ t.entrance e = { s.entrance e with rewriteWaiting := false } ∧ ∀ d, d ≠ e → t.entrance d = s.entrance d)

/-- A handed group enters the insert queue, or waits. With nothing waiting or entering and a place free it begins to enter in the
event that hands it, whatever the queue holds: a notice is stamped, takes the slot at the allocated producer and stands in the
queue with its producer word, or is counted as dropped with 63 unconsumed; a ring copy, a completion and an access stand there
in their order (R168, R172). On a free port the first entry is granted at once (R169). Else the group joins the waiters, and a
GROUP_ENTERS_QUEUE makes the first of them begin once it can. Groups handed at one moment join in any order that keeps what the
rules order (`State.ordered`), each such order named by a free value (log 6, log 9). Entering moves no unit beyond what an
entry that reaches memory brings about, and a tick leaves no group waiting that could enter. -/
def Obligations.HandedGroupsEnterOrWait : Prop :=
  (∀ (s : State) (m : WindowMap) (g : Group), s.path.map = some m → s.path.handed = [g] →
    let t : State := { s with path := { s.path with handed := [] } }
    (s.path.waiters = [] → s.path.entering = [] → s.path.queue.length < 8 →
      (DropsNotice s g → s.path.queue = [] → ∃ n, g = .notice n
        ∧ s.entered = State.grant { t with path := { t.path with dropped := min 65535 (s.path.dropped + n.carried + 1) } })
      ∧ (¬DropsNotice s g → s.path.portBusy = true → s.entered = { t with path := groupBegun t m g })
      ∧ (∀ addr w rest, ¬DropsNotice s g → s.path.portBusy = false → s.path.queue = [] → s.path.access = none →
          groupEntries s m g = .write addr w .plain :: rest →
            s.entered = { t with
              mem := Memory.writeWord s.mem addr w
              path := { groupBegun t m g with queue := rest.take 8, entering := rest.drop 8, portBusy := true, passedOver := 0 } }))
    ∧ (s.path.waiters ≠ [] ∨ s.path.entering ≠ [] ∨ 8 ≤ s.path.queue.length →
        s.entered = { t with path := { t.path with waiters := s.path.waiters ++ [g] } }))
  ∧ (∀ (s : State) (m : WindowMap) (g : Group) (rest : List Group), s.path.map = some m → Settled s → s.path.waiters = g :: rest →
    let t : State := { s with path := { s.path with waiters := rest } }
    (s.path.entering = [] → s.path.queue.length < 8 → s.path.portBusy = true →
      (DropsNotice s g → ∃ n, g = .notice n ∧ exec .groupEntersQueue s =
        .next { t with path := { t.path with dropped := min 65535 (s.path.dropped + n.carried + 1) } })
      ∧ (¬DropsNotice s g → exec .groupEntersQueue s = .next { t with path := groupBegun t m g }))
    ∧ (s.path.entering ≠ [] ∨ 8 ≤ s.path.queue.length → exec .groupEntersQueue s = .next s))
  ∧ (∀ s : State, Settled s → s.path.waiters = [] → exec .groupEntersQueue s = .next s)
  ∧ (∀ s : State, s.path.waiters ≠ [] → ∃ gs, Joins s.ordered s.path.handed gs ∧ s.entered.path.waiters = s.path.waiters ++ gs)
  ∧ (∀ (s : State) (gs : List Group), (∃ k, interleave s.ordered k s.path.handed = gs) ↔ Joins s.ordered s.path.handed gs)
  ∧ (∀ s : State, EntryKeeps s s.entered ∧ EntryKeeps s s.waitersEnter)
  ∧ ∀ s : State, PathBounds s →
      s.waitersEnter.path.waiters = [] ∨ s.waitersEnter.path.entering ≠ [] ∨ 8 ≤ s.waitersEnter.path.queue.length

/-- A full-word write to a ring index is judged by its ring: a consumer write inside the span up to the producer is taken
(R170), an OUTBOUND producer write from the copy up to the slot before the consumer is taken (R171), and any other is
absorbed with RANGE. -/
def Obligations.RingIndicesAreJudgedByTheirRing : Prop :=
  (∀ (s : State) (m : WindowMap) (addr : Addr) (data : Word), Serving s m → PortIdle s →
    (classify m addr = .noticeConsumer →
      (data.toNat < 64 ∧ (data.toNat + 64 - s.path.noticeConsumer) % 64 ≤ (s.path.published + 64 - s.path.noticeConsumer) % 64 →
        ∃ t : State, exec (.consumerIndexWrite addr data) s = .next t.entered ∧ t.path.noticeConsumer = data.toNat
          ∧ WriteJoins s t addr data ∧ FieldSideKept s t ∧ t.vlu = s.vlu
          ∧ (data.toNat ≠ s.path.noticeConsumer → 0 < s.path.dropped →
              t.path.dropped = 0
                ∧ t.path.handed = s.path.handed ++ [.notice ⟨0x0102, 1, .warn, wordOf s.path.dropped, 0, s.path.dropped⟩])
          ∧ (data.toNat = s.path.noticeConsumer ∨ s.path.dropped = 0 →
              t.path.dropped = s.path.dropped ∧ t.path.handed = s.path.handed))
      ∧ (¬(data.toNat < 64 ∧ (data.toNat + 64 - s.path.noticeConsumer) % 64
            ≤ (s.path.published + 64 - s.path.noticeConsumer) % 64) →
          exec (.consumerIndexWrite addr data) s = .next (absorbed s addr 0xF data .range).entered))
    ∧ (classify m addr = .inboundConsumer →
      (data.toNat < 16 ∧ (data.toNat + 16 - s.path.inboundConsumer) % 16
          ≤ (s.path.inboundWritten + 16 - s.path.inboundConsumer) % 16 →
        ∃ t : State, exec (.consumerIndexWrite addr data) s = .next t.entered ∧ t.path.inboundConsumer = data.toNat
          ∧ WriteJoins s t addr data ∧ FieldSideKept s t ∧ t.path.handed = s.path.handed)
      ∧ (¬(data.toNat < 16 ∧ (data.toNat + 16 - s.path.inboundConsumer) % 16
            ≤ (s.path.inboundWritten + 16 - s.path.inboundConsumer) % 16) →
          exec (.consumerIndexWrite addr data) s = .next (absorbed s addr 0xF data .range).entered)))
  ∧ ∀ (s : State) (m : WindowMap) (addr : Addr) (data : Word),
    Serving s m → PortIdle s → classify m addr = .outboundProducer →
      (data.toNat < 16 ∧ (data.toNat + 16 - s.path.outboundProducer) % 16
          ≤ ((s.path.outboundWritten + 15) % 16 + 16 - s.path.outboundProducer) % 16 →
        ∃ t : State, exec (.outboundProducerWrite addr data) s = .next t.entered ∧ t.path.outboundProducer = data.toNat
          ∧ WriteJoins s t addr data ∧ FieldSideKept s t ∧ t.sup = s.sup ∧ t.rbc = s.rbc ∧ t.ent = s.ent ∧ t.rfc = s.rfc)
      ∧ (¬(data.toNat < 16 ∧ (data.toNat + 16 - s.path.outboundProducer) % 16
            ≤ ((s.path.outboundWritten + 15) % 16 + 16 - s.path.outboundProducer) % 16) →
          exec (.outboundProducerWrite addr data) s = .next (absorbed s addr 0xF data .range).entered)

/-! ### Guarded writes -/

/-- A value its owner does not know is absorbed with RANGE, and in STABLED a known one with STABLED (R94, R99, R111,
R124, R159). That one it does not know takes RANGE in STABLED too is the model's choice for RACK_BRAKE and the entrance words
(log 54). -/
def Obligations.OwnerAbsorbsUnknownValuesAndInStabled : Prop :=
  ∀ (s : State) (m : WindowMap) (addr : Addr) (data : Word) (w : Guarded),
    Serving s m → classify m addr = .guarded w →
      ((w = .direction ∧ 2 < data.toNat) ∨ (w = .rackBrake ∧ 1 < data.toNat) ∨ (∃ e, w = .entrance e ∧ 4 < data.toNat) →
        exec (.plainMemoryAccess addr 0xF true data) s = .next (absorbed s addr 0xF data .range).entered)
      ∧ (s.run.runState = .stabled →
          (w = .direction ∧ data.toNat ≤ 2) ∨ (w = .traction ∧ data ≠ 0) ∨ (w = .rackBrake ∧ data.toNat ≤ 1)
              ∨ w = .serviceBrake ∨ (∃ e, w = .entrance e ∧ data.toNat ≤ 4) →
            exec (.plainMemoryAccess addr 0xF true data) s = .next (absorbed s addr 0xF data .stabled).entered)

/-- DIRECTION is taken only at standstill: moving it is absorbed with MOVING; at standstill it becomes the accepted
word, and an equal word moves neither window nor Motion Unit (R94). TRACTION is stored as the lower of the word and the
ceiling; the output follows it, a ceiling that falls in the same event lowers both, and 0 sets the acknowledgement (R92,
R93). -/
def Obligations.DirectionAndTractionAreTakenByTheirRules : Prop :=
  (∀ (s : State) (m : WindowMap) (addr : Addr) (data : Word),
    Serving s m → classify m addr = .guarded .direction → s.run.runState = .run → data.toNat ≤ 2 → PortIdle s →
      (s.motion.standstill = false → exec (.direction addr data) s = .next (absorbed s addr 0xF data .moving).entered)
      ∧ (s.motion.standstill = true →
        ∃ t : State, exec (.direction addr data) s = .next t.entered
          ∧ t.sup.direction.code = data.toNat ∧ WriteJoins s t addr data
          ∧ t.run = s.run ∧ t.tooth = s.tooth ∧ t.scan = s.scan ∧ t.pending = s.pending
          ∧ (data.toNat = s.sup.direction.code → t.prof = s.prof ∧ t.motion = s.motion)))
  ∧ ∀ (s : State) (m : WindowMap) (addr : Addr) (data : Word),
    Serving s m → classify m addr = .guarded .traction → (s.run.runState = .stabled → data = 0) → PortIdle s →
      ∃ t : State, exec (.traction addr data) s = .next t.entered
        ∧ t.sup.traction = min (min data.toNat s.sup.ceiling) t.sup.ceiling ∧ t.sup.output = t.sup.traction
        ∧ WriteJoins s t addr (wordOf (min data.toNat s.sup.ceiling))
        ∧ (data = 0 → s.sup.state = .service → t.sup.acknowledged = true)
        ∧ t.sup.direction = s.sup.direction ∧ FieldSideKept s t

/-- The evaluation of the Supervisor, at an accepted TRACTION write. L is the lowest of the limits and ceilings present, 600
where none is (R78, R79); without a known position or a direction there is no target, else exactly those of R81 are formed,
each with its distance and its slack by the braking distance of the deceleration in force (R80, R82, R83). A TRIP stands;
else each trip condition that holds raises its cause, the first of them first, with TRIP queued (R84, R87); else the state is
decided by R85: entry to SERVICE clears the acknowledgement and queues SERVICE_INTERVENTION, and SERVICE is left, with
SERVICE_ENDED, only at or below L, with every slack at least W and the acknowledgement. The claim and the ceiling follow the
state (R88, R91). The model's choices: while the position is UNKNOWN the authority's end is not placed (log 20), and of the
Supervisor's own causes the first in the table of R84 is taken first (log 51). -/
def Obligations.EvaluationDecidesTheSupervisor : Prop :=
  ∀ (s : State) (m : WindowMap) (addr : Addr) (data : Word),
    Serving s m → classify m addr = .guarded .traction → (s.run.runState = .stabled → data = 0) → PortIdle s →
      ∃ t : State, exec (.traction addr data) s = .next t.entered
        ∧ (∀ x, LimitPresent t x → t.sup.limit ≤ x) ∧ t.sup.limit ≤ 600 ∧ (t.sup.limit = 600 ∨ LimitPresent t t.sup.limit)
        ∧ (t.motion.posState = .unknown ∨ t.sup.direction = .none → t.sup.targets = [])
        ∧ (∀ w : Way, t.motion.posState ≠ .unknown → t.sup.direction = w.dir →
          (∀ k p vt, (∃ x ∈ t.sup.targets, x.kind = k ∧ x.point = p ∧ x.speed = vt) ↔ TargetFormed t w k p vt)
          ∧ ∀ x ∈ t.sup.targets, x.distance = t.distanceTo w x.point
            ∧ ∃ a, DecelerationInForce t w x.point a
              ∧ (t.motion.speed ≤ x.speed → x.slack = x.distance)
              ∧ (x.speed < t.motion.speed → x.slack = x.distance - (min 199999
                  ((t.motion.speed * t.motion.speed - x.speed * x.speed) * 10000 / (2592 * a)
                    + t.motion.speed * Cfg.buildUpTime t.cfg / 3600) : Nat)))
        ∧ (s.sup.state = .trip → t.sup.state = .trip ∧ t.sup.firstCause = s.sup.firstCause ∧ t.sup.tripTime = s.sup.tripTime
            ∧ s.sup.causes <+: t.sup.causes ∧ ∀ c, OwnCause t c → c ∈ t.sup.causes)
        ∧ (s.sup.state ≠ .trip →
          (∀ c, OwnCause t c → t.sup.state = .trip ∧ t.sup.tripTime = s.now ∧ (∀ d, d ∈ t.sup.causes ↔ OwnCause t d)
            ∧ ∃ f, t.sup.firstCause = some f ∧ OwnCause t f ∧ f.code ≤ c.code
              ∧ Group.notice ⟨0x0803, 8, .alarm, wordOf (f.code + 2 ^ 8 * (t.motion.speed % 65536)), wordOf t.motion.position, 0⟩
                  ∈ t.path.handed)
          ∧ ((∀ c, ¬OwnCause t c) →
            (s.sup.state ≠ .service → DecidedAsNormal t t.sup.state
              ∧ (t.sup.state = .service → t.sup.acknowledged = false
                ∧ ∃ w, Group.notice ⟨0x0801, 8, .warn, wordOf (t.motion.speed % 65536 + t.sup.limit % 65536 * 65536), w, 0⟩
                    ∈ t.path.handed))
            ∧ (s.sup.state = .service →
              let ends := t.motion.speed ≤ t.sup.limit ∧ ¬SlackUnder t (Cfg.warnDistance t.cfg)
                ∧ (s.sup.acknowledged = true ∨ data = 0)
              (ends → t.sup.state = .normal ∧ Group.notice ⟨0x0802, 8, .info, 0, 0, 0⟩ ∈ t.path.handed)
              ∧ (¬ends → t.sup.state = .service))))
        ∧ (t.sup.state = .normal ∨ t.sup.state = .warn → t.sup.claim = 0)
        ∧ (t.sup.state = .service → t.sup.claim = Cfg.interventionLevel t.cfg) ∧ (t.sup.state = .trip → t.sup.claim = 100)
        ∧ (let agrees := ∃ a, t.vlu.authority = some a ∧ a.expired = false ∧ a.way.dir = t.sup.direction
            ∧ t.rbc.state = .released
          (¬agrees ∨ t.sup.state = .service ∨ t.sup.state = .trip → t.sup.ceiling = 0)
          ∧ (agrees → t.sup.state = .normal → t.sup.ceiling = 1000)
          ∧ (agrees → t.sup.state = .warn → t.sup.ceiling = min (Cfg.warnTraction t.cfg) 1000))

/-- The route window. A DIRECTION write that changes the word rebuilds it from the reference segment (R12): a reference record
that is cached and holds the position gives a window whose end kind is the one of R10 (DISTANCE with direction NONE); one
that is cached, does not hold it and has no link toward it loses the reference segment, LINE_END; one that is not cached is
filled while the rebuild waits, PENDING, and where no fill is known for it and all four lines of its set stay pinned once the
window's own are unpinned, the reference segment is lost, CONGESTION. A FILL for the last entry, and one for another that moves
the front into another segment, extends the window to its end kind (R10). A speed that falls to 0 at standstill shortens the
window until the entry before the last no longer serves, and its end kind holds (R11). At a split without a branch the end kind
is UNDECIDED (R13). PENDING while a rebuild waits (log 25), COUNT at 14 entries, the order of the end kinds and a link back
into the window as LINE_END (log 17), and the code and the width of the track in PROFILE_GAP (log 16) are the model's
choices. -/
def Obligations.RouteWindowEndsByItsEndKind : Prop :=
  (∀ (s : State) (m : WindowMap) (addr : Addr) (data : Word) (n : Nat),
    Serving s m → classify m addr = .guarded .direction → s.run.runState = .run → PortIdle s → s.motion.standstill = true →
    data.toNat ≤ 2 → data.toNat ≠ s.sup.direction.code → s.prof.refSeg = some n → CacheInv s →
      ∃ t : State, exec (.direction addr data) s = .next t.entered
        ∧ (∀ r, s.prof.recordOf n = some r →
          (r.holds s.motion.position = true → t.prof.window ≠ [] ∧ t.prof.rebuild = none ∧ t.prof.refSeg.isSome = true
            ∧ (t.sup.direction = .none → t.prof.endKind = .distance) ∧ (t.sup.direction ≠ .none → EndKindHolds t))
          ∧ (r.holds s.motion.position = false →
              r.next (if r.passedBy .up s.motion.position then .up else .down) = none → ReferenceLost s t .lineEnd))
        ∧ (s.prof.recordOf n = none →
          let full := ∀ l ∈ s.prof.setOf n, l.pinned = true
            ∧ (l.valid = true → ∀ e ∈ s.prof.window, e.state = .present → e.seg ≠ l.tag)
          (s.rfc.fillKnown n = true ∨ ¬full →
            t.prof.rebuild = some 0 ∧ t.prof.endKind = .pending ∧ t.prof.window = [] ∧ t.prof.refSeg = some n
              ∧ t.rfc.fillKnown n = true)
          ∧ (s.rfc.fillKnown n = false → full → ReferenceLost s t .congestion)))
  ∧ (∀ (s : State) (n : Nat) (data : List Byte) (e : Entry), s.rfc.inFlight = some (.fill n false) → n ∉ s.rfc.uncached →
      recordReason (takeBytes 32 data) n (Cfg.segmentCount s.cfg) = none →
      s.prof.discontinuous (Segment.ofBytes (takeBytes 32 data)) = none → CacheInv s →
      (∃ l ∈ s.prof.setOf n, l.valid = false ∨ l.pinned = false) → s.sup.direction ≠ .none → s.prof.rebuild = none →
      s.prof.walk = none → s.prof.search = none → e ∈ s.prof.window → e.seg = n → e.state = .filling →
        ∃ t : State, exec (.fill data) s = .next t.entered ∧ t.prof.window ≠ []
          ∧ (s.prof.window.getLast? = some e ∨ t.prof.front ≠ s.prof.front → EndKindHolds t))
  ∧ ∀ s : State, s.run.runState ≠ .configFault → s.motion.standstill = false →
      1500 ≤ elapsed s.now s.motion.standstillTimer → s.motion.speed ≠ 0 → s.sup.direction ≠ .none → s.prof.window ≠ [] →
      CacheInv s →
        ∃ t : State, exec .standstill s = .next t.entered ∧ t.prof.window ≠ [] ∧ t.shortens = false ∧ EndKindHolds t

/-- A RELEASE that R100 absorbs queues BRAKE_RELEASE_REFUSED with the first reason in its order, and changes nothing else.
One with every condition of R100 met starts the release: both setpoints 1000, the release timer at the time of
acceptance, no reading counted yet (R102). A TRIP in the same event applies the brake again. In RELEASING and RELEASED a
RELEASE is stored and moves neither state nor setpoints. -/
def Obligations.ReleaseIsRefusedInOrderOrStarts : Prop :=
  (∀ (s : State) (m : WindowMap) (addr : Addr),
    Serving s m → classify m addr = .guarded .rackBrake → s.run.runState = .run →
      (s.rbc.state = .applying ∨ s.rbc.state = .testing → RefusesRelease s addr .busy 0)
      ∧ (s.rbc.state = .applyFault → RefusesRelease s addr .fault 0)
      ∧ (s.rbc.state = .applied →
          (s.sup.state = .trip → RefusesRelease s addr .tripped 0)
          ∧ (s.sup.state ≠ .trip → s.writeInFlight = true → RefusesRelease s addr .flashBusy 0)
          ∧ (s.sup.state ≠ .trip → s.writeInFlight = false →
              (∀ e, s.firstUnsecured = some e → RefusesRelease s addr .entrance (e.val + 1))
              ∧ (s.firstUnsecured = none →
                (s.scan.meas ≠ .valid → RefusesRelease s addr .measurement 0)
                ∧ (s.scan.meas = .valid → s.scan.phWindow = .low → RefusesRelease s addr .supply 0)))))
  ∧ ∀ (s : State) (m : WindowMap) (addr : Addr),
    Serving s m → classify m addr = .guarded .rackBrake → s.run.runState = .run → PortIdle s →
      (s.rbc.state = .applied → s.sup.state ≠ .trip → s.writeInFlight = false → s.firstUnsecured = none →
          s.scan.meas = .valid → s.scan.phWindow ≠ .low →
        ∃ t : State, exec (.rackBrakeRelease addr) s = .next t.entered ∧ WriteJoins s t addr 1 ∧ FieldSideKept s t
          ∧ (t.sup.state ≠ .trip →
              t.rbc.state = .releasing ∧ t.rbc.word = .release ∧ t.rbc.setpointA = 1000 ∧ t.rbc.setpointB = 1000
                ∧ t.rbc.releaseTimer = some s.now ∧ t.rbc.countedA = none ∧ t.rbc.countedB = none)
          ∧ (t.sup.state = .trip → t.rbc.state = .applying ∧ t.rbc.word = .apply))
      ∧ (s.rbc.state = .releasing ∨ s.rbc.state = .released →
        ∃ t : State, exec (.rackBrakeRelease addr) s = .next t.entered ∧ WriteJoins s t addr 1 ∧ FieldSideKept s t
          ∧ (t.sup.state ≠ .trip → t.rbc.state = s.rbc.state ∧ t.rbc.word = .release ∧ t.rbc.setpointA = s.rbc.setpointA
              ∧ t.rbc.setpointB = s.rbc.setpointB ∧ t.rbc.releaseTimer = s.rbc.releaseTimer))

/-- An APPLY is stored in every rack brake state; from RELEASING and RELEASED it starts an application by the stage plan of
R105, whose first stage lowers the setpoints, and in APPLIED, APPLYING and APPLY_FAULT the plan and the window go on, in
TESTING the test with its setpoints, unless the event is a trip (R103, R106). -/
def Obligations.ApplyStartsAnApplication : Prop :=
  ∀ (s : State) (m : WindowMap) (addr : Addr),
    Serving s m → classify m addr = .guarded .rackBrake → s.run.runState = .run → PortIdle s →
      ∃ t : State, exec (.rackBrakeApply addr) s = .next t.entered
        ∧ WriteJoins s t addr 0 ∧ FieldSideKept s t ∧ t.rbc.word = .apply
        ∧ (s.rbc.state = .releasing ∨ s.rbc.state = .released →
            t.rbc.state = .applying ∧ t.rbc.releaseTimer = none ∧ t.rbc.lossA = none ∧ t.rbc.lossB = none
              ∧ PlanChosen s t.rbc.plan.count t.rbc.plan.interval ∧ t.rbc.plan.reached = 1 ∧ t.rbc.plan.start = s.now
              ∧ t.rbc.setpointA = min s.rbc.setpointA (1000 * (t.rbc.plan.count - 1) / t.rbc.plan.count)
              ∧ t.rbc.setpointB = min s.rbc.setpointB (1000 * (t.rbc.plan.count - 1) / t.rbc.plan.count)
              ∧ (t.rbc.plan.count ≤ 1 → t.rbc.applyWindow = some s.now))
        ∧ (s.rbc.state = .applied ∨ s.rbc.state = .applying ∨ s.rbc.state = .applyFault →
            t.rbc.state = s.rbc.state ∧ t.rbc.plan = s.rbc.plan ∧ t.rbc.applyWindow = s.rbc.applyWindow
              ∧ t.rbc.setpointA = s.rbc.setpointA ∧ t.rbc.setpointB = s.rbc.setpointB)
        ∧ (s.rbc.state = .testing → t.sup.state ≠ .trip ∨ s.sup.state = .trip →
            t.rbc.state = .testing ∧ t.rbc.test = s.rbc.test ∧ t.rbc.testClaim = s.rbc.testClaim
              ∧ t.rbc.setpointA = s.rbc.setpointA ∧ t.rbc.setpointB = s.rbc.setpointB)

/-- The service brake output is the greatest of the accepted SERVICE_BRAKE, the Supervisor's claim and the test claim: a
write in RUN is stored up to 100 and forms it anew, every step keeps it so while the part is not in CONFIG_FAULT, and the
image shows it (R111, R112). -/
def Obligations.ServiceBrakeOutputIsTheGreatestClaim : Prop :=
  (∀ (s : State) (m : WindowMap) (addr : Addr) (data : Word),
    Serving s m → classify m addr = .guarded .serviceBrake → s.run.runState = .run → PortIdle s →
      ∃ t : State, exec (.serviceBrake addr data) s = .next t.entered
        ∧ t.rbc.serviceDemand = min data.toNat 100 ∧ GreatestClaim t
        ∧ WriteJoins s t addr (wordOf (min data.toNat 100)) ∧ FieldSideKept s t)
  ∧ GreatestClaim State.reset
  ∧ (∀ s t : State, (s.run.runState ≠ .configFault → GreatestClaim s) → step s = .next t →
      t.run.runState ≠ .configFault → GreatestClaim t)
  ∧ ∀ s : State, s.imageWord 14 = wordOf (s.rbc.state.code + 2 ^ 16 * s.rbc.serviceOutput)

/-- What a request does to an entrance, state by state: an OPEN (R125, R126), a CLOSE and a NONE (R127), an ISOLATE and a
RESTORE (R128). A motion whose end the input already reads ends at once: an opening at an open leaf, a closing at a closed
and locked one; that is read from R129 by the model (log 21). -/
def Obligations.RequestsAreDecidedByTheEntranceState : Prop :=
  (∀ (r : EntranceRec) (release : Bool) (now : Time),
    (r.state = .closedLocked → r.closedLocked = true →
      (release = true → r.take .opening release now = .inr { r with
        state := .unlocking, attempts := 0, held := false, motionTimer := some now, settle := none })
      ∧ (release = false → r.held = false →
          r.take .opening release now = .inr { r with held := true, heldTime := now })
      ∧ (release = false → r.held = true → r.take .opening release now = .inr r))
    ∧ (r.state = .unlocking ∨ r.state = .opened → r.take .opening release now = .inr r)
    ∧ (r.state = .opening → r.take .opening release now = .inr { r with autoClose := false })
    ∧ (r.state = .closing →
        (release = true → r.openEnd = false → r.take .opening release now = .inr { r with
          state := .opening, autoClose := false, motionTimer := some now, settle := none })
        ∧ (release = true → r.openEnd = true → r.take .opening release now = .inr { r with
          state := .opened, autoClose := false, motionTimer := none, settle := none })
        ∧ (release = false → r.take .opening release now = .inl .noRelease))
    ∧ (r.state = .locking → r.take .opening release now = .inl .busy)
    ∧ (r.state = .obstructed ∨ r.state = .ajar →
        (release = true → r.openEnd = false → r.take .opening release now = .inr { r with
          state := .opening, attempts := 0, motionTimer := some now, settle := none })
        ∧ (release = true → r.openEnd = true → r.autoClose = false → r.take .opening release now = .inr { r with
          state := .opened, attempts := 0, motionTimer := none, settle := none })
        ∧ (release = false → r.take .opening release now = .inl .noRelease))
    ∧ (r.state = .isolated → r.take .opening release now = .inl .isolated))
  ∧ ∀ (r : EntranceRec) (release : Bool) (now : Time),
    r.take .none release now = .inr { r with held := false }
    ∧ (r.state = .closedLocked →
        r.take .closing release now = .inr { r with held := false }
        ∧ r.take .isolate release now = .inr { r with held := false, state := .isolated }
        ∧ r.take .restore release now = .inl .notIsolated)
    ∧ (r.state = .unlocking ∨ r.state = .opening ∨ r.state = .opened →
        (r.closedLocked = false → r.take .closing release now = .inr { r with
          state := .closing, autoClose := false, motionTimer := some now, settle := none })
        ∧ (r.closedLocked = true → r.take .closing release now = .inr { r with
          state := .locking, autoClose := false, motionTimer := some now, settle := some now }))
    ∧ (r.state = .closing ∨ r.state = .locking → r.take .closing release now = .inr r)
    ∧ (r.state = .obstructed ∨ r.state = .ajar →
        (r.closedLocked = false → r.take .closing release now = .inr { r with
          state := .closing, attempts := 0, motionTimer := some now, settle := none })
        ∧ (r.closedLocked = true → r.take .closing release now = .inr { r with
          state := .locking, attempts := 0, motionTimer := some now, settle := some now }))
    ∧ (r.state = .isolated →
        r.take .closing release now = .inl .isolated ∧ r.take .isolate release now = .inr r
        ∧ r.take .restore release now = .inr { r with state := .closedLocked })
    ∧ (r.state ≠ .closedLocked → r.state ≠ .isolated →
        r.take .isolate release now = .inl .notClosed ∧ r.take .restore release now = .inl .notIsolated)

/-- A request written to an entrance's word: one that its state refuses is absorbed with ENTRANCE_REQUEST_REFUSED, one
that it takes becomes the entrance's record and is stored; the other entrances stand (R124). -/
def Obligations.RequestIsStoredOrRefused : Prop :=
  ∀ (s : State) (m : WindowMap) (addr : Addr) (e : Entrance) (q : Request),
    Serving s m → classify m addr = .guarded (.entrance e) → s.run.runState = .run → PortIdle s →
      (∀ reason, (s.entrance e).take q (s.released? e) s.now = .inl reason →
        exec (requestCommand q addr) s =
          .next (noticed s 0x0A02 10 .info
            (wordOf (e.val + 1 + 2 ^ 8 * q.code + 2 ^ 16 * (s.entrance e).state.code + 2 ^ 24 * reason.code)) 0).entered)
      ∧ (∀ r, (s.entrance e).take q (s.released? e) s.now = .inr r →
        ∃ t : State, exec (requestCommand q addr) s = .next t.entered
          ∧ t.entrance e = { r with rewriteWaiting := false }
          ∧ (∀ d, d ≠ e → t.entrance d = s.entrance d)
          ∧ WriteJoins s t addr (wordOf q.code) ∧ FieldSideKept s t
          ∧ (r.held = true → (s.entrance e).held = false →
              Group.notice ⟨0x0A03, 10, .info, wordOf (e.val + 1), 0, 0⟩ ∈ t.path.handed))

/-! ### Service slots -/

/-- A full-word write to a slot's control word (R174). With go and the code of an operation (each of the ten): BLOCKED while
the slot is IN_FLIGHT, RANGE with done set; else it is stored and the slot becomes IN_FLIGHT, and its operands are read, or
in STABLED it completes REFUSED (R159, R175). With go and done clear the slot becomes IDLE; a go with a code of no operation
completes the slot BAD_OPERAND; both are stored, and both are BLOCKED while the slot is IN_FLIGHT. A word with done set is
absorbed with RANGE whatever go is. -/
def Obligations.ControlWordsAreDecidedBySlotState : Prop :=
  (∀ (s : State) (m : WindowMap) (o : Operation) (addr : Addr) (rest : Word) (k : Slot),
    Serving s m → PortIdle s → classify m addr = .control k →
      ((s.path.slots.get k).state = .inFlight →
        exec (goCommand o addr rest) s = .next (absorbed s addr 0xF (goWordOf o rest) .blocked).entered)
      ∧ ((s.path.slots.get k).state ≠ .inFlight → rest.getLsbD 1 = true →
        exec (goCommand o addr rest) s = .next (absorbed s addr 0xF (goWordOf o rest) .range).entered)
      ∧ ((s.path.slots.get k).state ≠ .inFlight → rest.getLsbD 1 = false →
        ∃ t : State, exec (goCommand o addr rest) s = .next t.entered ∧ WriteJoins s t addr (goWordOf o rest)
          ∧ t.path.slots.get k = ⟨.inFlight, BitVec.ofNat 8 o.code, s.path.nextGo, none, none, none, none, none, false⟩
          ∧ t.path.nextGo = s.path.nextGo + 1 ∧ (∀ j, j ≠ k → t.path.slots.get j = s.path.slots.get j)
          ∧ UnitsKept s t
          ∧ (s.run.runState = .stabled → o ∈ barredInStabled →
              t.path.handed = s.path.handed ++ [completion t m k .refused [wordOf Reason.stabled.code, 0]])
          ∧ (s.run.runState = .run ∨ o ∉ barredInStabled →
              t.path.handed = s.path.handed ++ [1, 2, 3, 4, 5].map fun i =>
                Group.accesses [.read (slotAddr m k i) (.operand k s.path.nextGo i)])))
  ∧ ∀ (s : State) (m : WindowMap) (addr : Addr) (op : Byte) (rest : Word) (k : Slot),
    Serving s m → PortIdle s → classify m addr = .control k →
      let bad := (rest &&& 0xFFFF00FE) ||| 1 ||| wordOf (op.toNat * 256)
      ((s.path.slots.get k).state = .inFlight →
        exec (.slotControlClear addr rest) s = .next (absorbed s addr 0xF (rest &&& 0xFFFFFFFC) .blocked).entered
        ∧ exec (.slotBadOperation addr op rest) s = .next (absorbed s addr 0xF bad .blocked).entered)
      ∧ ((s.path.slots.get k).state ≠ .inFlight → rest.getLsbD 1 = true →
        exec (.slotBadOperation addr op rest) s = .next (absorbed s addr 0xF bad .range).entered)
      ∧ ((s.path.slots.get k).state ≠ .inFlight → rest.getLsbD 1 = true →
        exec (.absorbedWrite addr 0xF rest) s = .next (absorbed s addr 0xF rest .range).entered)
      ∧ ((s.path.slots.get k).state ≠ .inFlight →
        ∃ t : State, exec (.slotControlClear addr rest) s = .next t.entered ∧ WriteJoins s t addr (rest &&& 0xFFFFFFFC)
          ∧ (t.path.slots.get k).state = .idle ∧ (∀ j, j ≠ k → t.path.slots.get j = s.path.slots.get j)
          ∧ t.path.handed = s.path.handed ∧ UnitsKept s t)
      ∧ ((s.path.slots.get k).state ≠ .inFlight → rest.getLsbD 1 = false → (∀ o : Operation, o.code ≠ op.toNat) →
        ∃ t : State, exec (.slotBadOperation addr op rest) s = .next t.entered
          ∧ WriteJoins s t addr bad
          ∧ (t.path.slots.get k).state = .inFlight ∧ (t.path.slots.get k).op = op
          ∧ t.path.handed = s.path.handed ++ [completion t m k .badOperand []] ∧ UnitsKept s t)

/-- A slot is handed over once, when its five operands have returned; MEASURE with a known source and 1 to 16
conversions joins the spot list (one conversion in STABLED), and otherwise completes BAD_OPERAND (R56, R175). That a
SLOT_DISPATCH of a slot that is not ready changes nothing is the model's choice (log 8). -/
def Obligations.MeasureJoinsTheSpotList : Prop :=
  (∀ (s : State) (k : Slot), Settled s →
    (s.path.slots.get k).state ≠ .inFlight ∨ (s.path.slots.get k).operandsReady = false
        ∨ (s.path.slots.get k).handed = true →
      exec (.slotDispatch k) s = .next s)
  ∧ ∀ (s : State) (m : WindowMap) (k : Slot) (source count : Nat),
    s.inService = true → AtHandOver s m k .measure →
    (s.path.slots.get k).operandNat 1 = source → (s.path.slots.get k).operandNat 2 = count →
      (7 < source ∨ count < 1 ∨ 16 < count →
        ∃ t : State, exec (.slotDispatch k) s = .next t.entered ∧ HandsFirst s t (completion s m k .badOperand []) ∧ t.scan = s.scan)
      ∧ (source ≤ 7 → 1 ≤ count → count ≤ 16 →
        ∃ t : State, ∃ x, exec (.slotDispatch k) s = .next t.entered ∧ Source.code x = source
          ∧ t.scan.spots = s.scan.spots ++ [⟨k, x, if s.run.runState = .stabled then 1 else count, 0, 0, 0, 0, 0⟩]
          ∧ (t.path.slots.get k).handed = true ∧ t.scan.last = s.scan.last ∧ t.scan.meas = s.scan.meas
          ∧ (s.scan.conv = none → s.scan.list = [] → s.scan.spots = [] → t.scan.conv = some ⟨x, .spot k⟩))

/-- TRIP_CLEAR: BUSY while its last completion has not reached memory, OK without a trip; in TRIP refused until the
car stands, the brake is APPLIED and no cause of the set stands; then the set is emptied, TRIP_CLEARED and the completion are
handed, and the Supervisor evaluates: where no trip condition of R84 holds the state is decided as from NORMAL by R85, with the
car at rest NORMAL, and one that holds raises TRIP anew. A trip with VALLEY_STOP is not cleared while the stop mark is
UNRELEASED (R90). That one handed over in STABLED is decided as in RUN is the model's reading (log 35). -/
def Obligations.TripClearRunsItsTests : Prop :=
  ∀ (s : State) (m : WindowMap) (k : Slot), s.inService = true → AtHandOver s m k .tripClear →
    ∃ t : State, exec (.slotDispatch k) s = .next t.entered ∧ (t.path.slots.get k).handed = true
      ∧ (s.sup.completing.isSome = true → HandsFirst s t (completion s m k .busy []))
      ∧ (s.sup.completing = none →
        t.sup.completing = some k
        ∧ (s.sup.state ≠ .trip → HandsFirst s t (completion s m k .ok [1]))
        ∧ (s.sup.state = .trip →
          (s.motion.standstill = false →
            HandsFirst s t (completion s m k .refused [wordOf Reason.notStandstill.code]))
          ∧ (s.motion.standstill = true → s.rbc.state ≠ .applied →
            HandsFirst s t (completion s m k .refused [wordOf Reason.brakeNotApplied.code]))
          ∧ (s.motion.standstill = true → s.rbc.state = .applied →
            ((∃ c ∈ s.sup.causes, CauseStands s c) →
              ∃ c ∈ s.sup.causes, CauseStands s c ∧ (∀ d ∈ s.sup.causes, CauseStands s d → c.code ≤ d.code)
                ∧ HandsFirst s t (completion s m k .refused [wordOf (0x80 + c.code)]))
            ∧ ((∀ c ∈ s.sup.causes, ¬CauseStands s c) →
              HandsAll s t
                [.notice ⟨0x0805, 8, .info,
                    wordOf ((s.sup.firstCause.map Cause.code).getD 0 + 2 ^ 8 * causeSet s.sup.causes), s.sup.tripTime, 0⟩,
                  completion s m k .ok [0, wordOf ((s.sup.firstCause.map Cause.code).getD 0), wordOf (causeSet s.sup.causes)]]
              ∧ ((∀ c, ¬OwnCause t c) → DecidedAsNormal t t.sup.state ∧ (s.motion.speed = 0 → t.sup.state = .normal)
                  ∧ t.sup.causes = [] ∧ t.sup.firstCause = none)
              ∧ ∀ c, OwnCause t c → t.sup.state = .trip ∧ (∀ d, d ∈ t.sup.causes ↔ OwnCause t d)))
          ∧ (Cause.valleyStop ∈ s.sup.causes → s.vlu.stop = .unreleased →
              t.sup.state = .trip ∧ Cause.valleyStop ∈ t.sup.causes ∧ t.sup.firstCause = s.sup.firstCause)))

/-- BRAKE_TEST: BUSY in TESTING, refused with the first condition of R114 that fails; else the test of pinion A begins
with a release, and the test claim is 100 (R114, R115). -/
def Obligations.BrakeTestStartsOrIsRefused : Prop :=
  ∀ (s : State) (m : WindowMap) (k : Slot), s.inService = true → AtHandOver s m k .brakeTest →
    ∃ t : State, exec (.slotDispatch k) s = .next t.entered ∧ (t.path.slots.get k).handed = true ∧ FieldSideKept s t
      ∧ (s.rbc.state = .testing → HandsFirst s t (completion s m k .busy []))
      ∧ (s.rbc.state ≠ .testing →
        (∀ r, testReason s = some r → HandsFirst s t (completion s m k .refused [wordOf r.code, 0]))
        ∧ (testReason s = none → t.sup.state ≠ .trip →
            t.rbc.state = .testing ∧ t.rbc.setpointA = 1000 ∧ t.rbc.setpointB = 0 ∧ t.rbc.testClaim = 100
              ∧ t.rbc.serviceOutput = max t.rbc.serviceDemand (max t.sup.claim 100)
              ∧ t.rbc.test = some ⟨.aRelease, s.now, k, none, none, none, none⟩)
        ∧ (testReason s = none → t.sup.state = .trip → t.rbc.state = .applying ∧ t.rbc.test = none))

/-- STABLE in RUN is refused with the first condition of R157 that fails, else the part enters STABLED; RESUME in
STABLED returns it to RUN, in RUN it completes OK at once; both are BUSY while the last completion has not reached
memory (R157, R158, R160). That a STABLE handed over in STABLED completes REFUSED is the model's reading (log 35),
and the number of the entrance in the detail word of ENTRANCE and HELD_REQUEST (log 16) and that one completed BUSY does not
count as the last (log 44) are its choices. -/
def Obligations.StableAndResumeMoveTheRunState : Prop :=
  ∀ (s : State) (m : WindowMap) (k : Slot),
    (AtHandOver s m k .stable ∨ AtHandOver s m k .resume → s.inService = true → s.run.completing.isSome = true →
      ∃ t : State, exec (.slotDispatch k) s = .next t.entered ∧ HandsFirst s t (completion s m k .busy []) ∧ t.run = s.run)
    ∧ (AtHandOver s m k .stable → s.run.completing = none →
      (s.run.runState = .run →
        (∀ r d, stableReason s = some (r, d) →
          ∃ t : State, exec (.slotDispatch k) s = .next t.entered ∧ FieldSideKept { s with run := { s.run with completing := some k } } t
            ∧ HandsFirst s t (completion s m k .refused [wordOf r.code, wordOf d]))
        ∧ (stableReason s = none →
          ∃ t : State, exec (.slotDispatch k) s = .next t.entered ∧ t.run = { s.run with runState := .stabled, completing := some k }
            ∧ (∀ c, (t.tooth.get c).armed = true) ∧ t.scan.running = false ∧ t.scan.meas = .notChecked ∧ t.vlu.linkLoss = none
            ∧ (s.vlu.link ≠ .sending → s.vlu.receivingBuffer = none → t.vlu.link = .stopped)
            ∧ t.motion = s.motion
            ∧ Group.notice ⟨0x0201, 2, .info, wordOf s.motion.position, s.now, 0⟩ ∈ t.path.handed
            ∧ completion s m k .ok [s.now] ∈ t.path.handed))
      ∧ (s.run.runState = .stabled →
        ∃ t : State, exec (.slotDispatch k) s = .next t.entered ∧ t.run = { s.run with completing := some k }
          ∧ HandsFirst s t (completion s m k .refused [wordOf Reason.stabled.code, 0])))
    ∧ (AtHandOver s m k .resume → s.run.completing = none →
      (s.run.runState = .run →
        ∃ t : State, exec (.slotDispatch k) s = .next t.entered ∧ t.run = { s.run with completing := some k }
          ∧ HandsFirst s t (completion s m k .ok [1]))
      ∧ (s.run.runState = .stabled →
        ∃ t : State, exec (.slotDispatch k) s = .next t.entered ∧ t.run = { s.run with runState := .run, completing := some k }
          ∧ (∀ c, (t.tooth.get c).armed = false) ∧ t.scan.running = true ∧ t.scan.started = s.now
          ∧ (s.vlu.link = .stopped → t.vlu.link = .idle) ∧ t.motion = s.motion
          ∧ HandsAll s t [.notice ⟨0x0202, 2, .info, 0, 0, 0⟩, completion s m k .ok [0]]))

/-- FLASH_READ, FLASH_PROGRAM and FLASH_ERASE with a range outside the flash complete BAD_OPERAND, with a buffer that
does not pass the four rules of R177 BAD_BUFFER; else the operation waits in the list, or is current, or has been refused
NOT_SECURED as it became current (R27 to R30). As a program or erase becomes current the lockout is SET, or WAITING while a fill is active
(R30); with the link free an erase starts its WRITE_ENABLE and a program reads its first word (R31). A FLASH_READ that
becomes current with the link free starts its SERVICE_READ, and leaves the lockout (R28). -/
def Obligations.FlashOperationsJoinTheListOrFail : Prop :=
  ∀ (s : State) (m : WindowMap) (k : Slot) (o : Operation) (kind : FlashKind) (a n b : Nat),
    s.inService = true → AtHandOver s m k o →
    (o, kind) ∈ [(Operation.flashRead, FlashKind.read), (.flashProgram, .program), (.flashErase, .erase)] →
    (s.path.slots.get k).operandNat 1 = a → (s.path.slots.get k).operandNat 2 = n →
    (s.path.slots.get k).operandNat 3 = b →
      ∃ t : State, exec (.slotDispatch k) s = .next t.entered ∧ FieldSideKept s t ∧ (t.path.slots.get k).handed = true
        ∧ (flashOutside kind a n = true → HandsFirst s t (completion s m k .badOperand []))
        ∧ (flashOutside kind a n = false → kind ≠ .erase → ¬BufferGood m b (roundWord n) →
            HandsFirst s t (completion s m k .badBuffer []))
        ∧ (flashOutside kind a n = false → kind = .erase ∨ BufferGood m b (roundWord n) →
            let op : FlashOp := ⟨kind, k, (s.path.slots.get k).goOrder, a, if kind = .erase then 0 else n,
              if kind = .erase then 0 else b⟩
            (op ∈ t.rfc.items ∨ t.rfc.currentOp = some op
              ∨ (kind ≠ .read ∧ ∃ r, flashReason s = some r
                  ∧ completion s m k .refused [wordOf Reason.notSecured.code, wordOf r.code] ∈ t.path.handed)) ∧
            (s.rfc.current = none → s.rfc.items = [] → s.prof.reads = [] → s.rfc.fills = [] →
              (kind = .read →
                t.rfc.lockout = s.rfc.lockout
                ∧ (s.rfc.inFlight = none → t.rfc.inFlight = some (.serviceRead 0 [])
                    ∧ t.rfc.current = some (.flash ⟨op, .readMoving, 0, 0, 0, 0, false⟩))
                ∧ (∀ x, s.rfc.inFlight = some x → t.rfc.inFlight = some x
                    ∧ t.rfc.current = some (.flash ⟨op, .readReady, 0, 0, 0, 0, false⟩)))
              ∧ (kind ≠ .read → flashReason s = none →
                t.rfc.lockout = (if s.rfc.activeFill then .waiting else .set)
                ∧ (kind = .program → t.rfc.inFlight = s.rfc.inFlight
                    ∧ t.rfc.current = some (.flash ⟨op, .dataReading 0, 0, 0, 0, 0, false⟩)
                    ∧ Group.accesses [.read (addrOf op.buffer) (.programData op.goOrder 0)] ∈ t.path.handed)
                ∧ (kind = .erase → s.rfc.inFlight = none → s.rfc.activeFill = false →
                    t.rfc.inFlight = some .writeEnable
                      ∧ t.rfc.current = some (.flash ⟨op, .enableMoving, 0, 0, 0, 0, false⟩)))))

/-- PROFILE_INVALIDATE of a segment outside the line completes BAD_OPERAND, and of one or of all completes OK with the
number of lines that were valid and named, which are then invalid; PROFILE_READ with a buffer that is too short or does not
pass the four rules of R177 completes BAD_BUFFER, one of a cached record writes it to the buffer and completes OK, CACHE, and one not cached waits for its fill, which is requested, or joined where it is known already;
one that congestion would keep from starting is carried out all the same (R20 to R22), marked as such when it is asked for
by the model's choice (log 33). -/
def Obligations.ProfileOperationsReachTheCache : Prop :=
  ∀ (s : State) (m : WindowMap) (k : Slot) (n : Nat), s.inService = true → (s.path.slots.get k).operandNat 1 = n →
    (AtHandOver s m k .profileInvalidate →
      (Cfg.segmentCount s.cfg ≤ n → n ≠ 0xFFFFFFFF →
        ∃ t : State, exec (.slotDispatch k) s = .next t.entered ∧ HandsFirst s t (completion s m k .badOperand []) ∧ t.prof = s.prof)
      ∧ (n < Cfg.segmentCount s.cfg ∨ n = 0xFFFFFFFF →
        ∃ t : State, exec (.slotDispatch k) s = .next t.entered
          ∧ completion s m k .ok
              [wordOf (s.prof.validLines.filter fun l => decide (n = 0xFFFFFFFF) || l.tag == n).length] ∈ t.path.handed
          ∧ (∀ l ∈ t.prof.validLines, n ≠ 0xFFFFFFFF ∧ l.tag ≠ n)))
    ∧ (AtHandOver s m k .profileRead →
      (Cfg.segmentCount s.cfg ≤ n →
        ∃ t : State, exec (.slotDispatch k) s = .next t.entered ∧ HandsFirst s t (completion s m k .badOperand []) ∧ t.prof = s.prof)
      ∧ (n < Cfg.segmentCount s.cfg →
        let b := (s.path.slots.get k).operandNat 2
        let len := (s.path.slots.get k).operandNat 3
        (len < 32 ∨ ¬BufferGood m b len →
          ∃ t : State, exec (.slotDispatch k) s = .next t.entered ∧ HandsFirst s t (completion s m k .badBuffer []) ∧ t.prof = s.prof)
        ∧ (32 ≤ len → BufferGood m b len →
          (∀ l, s.prof.lineOf n = some l →
            ∃ t : State, exec (.slotDispatch k) s = .next t.entered
              ∧ HandsAll s t ((wordWrites (.recordWord k) b (packWords l.bytes)).map (fun e => Group.accesses [e])
                  ++ [completion s m k .ok [0]]))
          ∧ (s.prof.lineOf n = none →
            ∃ t : State, exec (.slotDispatch k) s = .next t.entered
              ∧ t.prof.reads = s.prof.reads ++ [⟨k, (s.path.slots.get k).goOrder, n, b, false⟩]
              ∧ t.prof.cache = s.prof.cache ∧ t.rfc.fillKnown n = true
              ∧ (s.rfc.fillKnown n = false → (n ∈ t.rfc.uncached ↔ s.prof.allPinned n = true))))))

/-! ### Start-up, CCR -/

/-- A CONFIG_READ puts its 32 bytes into the store and the next begins; after the sixteenth a block that passes gives the
map, the initial writes and START, and one that does not brings CONFIG_FAULT; so does the time base at 200 ms before the
block has passed, at LOADING_LIMIT or as a CONFIG_READ ends, whose block is then not checked (R25, R36 to R39). That the
car number of START's parameter word has 16 bits is the model's choice (log 16), as are that the next CONFIG_READ is on the link
at once (log 5) and that LOADING_LIMIT before its time or after the block has passed changes nothing (log 8). -/
def Obligations.ConfigurationIsReadAndJudged : Prop :=
  ∀ (s : State) (k : Nat) (data : List Byte), Settled s → s.run.runState = .loading →
    let store := s.rfc.store.take (32 * k) ++ takeBytes 32 data ++ s.rfc.store.drop (32 * k + 32)
    (s.rfc.inFlight = some (.configRead k) → s.now.toNat < 200 →
      (k < 15 → exec (.configRead data) s = .next { s with rfc := { s.rfc with
        lineBuffer := takeBytes 32 data, store := store, inFlight := some (.configRead (k + 1)) } })
      ∧ (k = 15 → configPasses store = true → ∀ m, windowMapOf store = some m →
        ∃ t : State, exec (.configRead data) s = .next t.entered ∧ t.rfc.store = store ∧ t.rfc.storeValid = true ∧ t.rfc.inFlight = none
          ∧ t.path.map = some m ∧ t.run = s.run
          ∧ t.path.handed = s.path.handed ++ [.accesses (resetWrites m),
              .notice ⟨0x0205, 2, .info, wordOf (Cfg.checkHalfword store + 2 ^ 16 * Cfg.carNumber store), 0, 0⟩])
      ∧ (k = 15 → configPasses store = false →
        ∃ t : State, exec (.configRead data) s = .next t.entered ∧ t.rfc.storeValid = s.rfc.storeValid ∧ ConfigFaultEntered s t))
    ∧ (s.rfc.inFlight = some (.configRead k) → 200 ≤ s.now.toNat →
        ∃ t : State, exec (.configRead data) s = .next t.entered ∧ t.rfc.store = s.rfc.store ∧ t.rfc.storeValid = s.rfc.storeValid
          ∧ ConfigFaultEntered s t)
    ∧ (s.rfc.storeValid = false → 200 ≤ s.now.toNat →
        ∃ t : State, exec .loadingLimit s = .next t.entered ∧ t.rfc.storeValid = false ∧ ConfigFaultEntered s t)
    ∧ (s.rfc.storeValid = true ∨ s.now.toNat < 200 → exec .loadingLimit s = .next s)

/-- RUN is entered when the block has passed and the initial writes have all reached memory: a check scan begins with
CR1 and the phases are read anew; with no access held the link is IDLE, each AJAR entrance queues ENTRANCE_AJAR, and
an entrance not secured raises a trip while the car is not at standstill; an access held is then decided and may move
these again (R38, R46, R50, R57, R120, R134). That ENTER_RUN changes nothing before that, or outside LOADING, is the
model's choice (log 8). -/
def Obligations.EnterRunStartsTheUnits : Prop :=
  ∀ s : State, Settled s → (s.run.runState ≠ .loading → exec .enterRun s = .next s) ∧ (s.run.runState = .loading →
    (s.rfc.storeValid = true → s.path.queue = [] → s.path.entering = [] → s.path.waiters = [] →
      ∃ t : State, exec .enterRun s = .next t.entered ∧ t.run = { s.run with runState := .run } ∧ t.path.held = none
        ∧ t.scan.running = true ∧ t.scan.meas = .notChecked ∧ t.scan.started = s.now
        ∧ (s.scan.conv = none →
            t.scan.conv = some ⟨.cr1, .scanList⟩ ∧ t.scan.list = [.cr2, .pa, .pb, .ps, .ph, .inc, .vs])
        ∧ (∀ c, (t.tooth.get c).steps = 0 ∧ (t.tooth.get c).phase1 = ((s.tooth.get c).comp1 != Cfg.inverted s.cfg (phaseIndex c))
            ∧ (t.tooth.get c).phase2 = ((s.tooth.get c).comp2 != Cfg.inverted s.cfg (phaseIndex c + 1)))
        ∧ (s.path.held = none → t.vlu.link = .idle
            ∧ (∀ e, (s.entrance e).state = .ajar →
                Group.notice ⟨0x0A01, 10, .warn, wordOf (e.val + 1), 0, 0⟩ ∈ t.path.handed)
            ∧ (s.motion.standstill = false → s.allSecured = false →
                t.sup.state = .trip ∧ Cause.entranceUnlocked ∈ t.sup.causes)))
    ∧ (s.rfc.storeValid = false ∨ s.path.queue ≠ [] ∨ s.path.entering ≠ [] ∨ s.path.waiters ≠ [] →
        exec .enterRun s = .next s))

/-- CCR in service: the indices, the counts and the accepted words of the host side return to their initial values,
the windows are rewritten, slots in flight become IDLE, and the run state, the position and memory stand; outside
service it is not acted on (R34, R57, R96, R118, R135, R155, R179). That the units take it in the order RBC,
Supervisor is the model's choice (log 45), as is that the command's operand has no effect (log 29). -/
def Obligations.CcrResetsTheHostSide : Prop :=
  ∀ (s : State) (moved : List Byte),
    (s.inService = true → ∀ m, s.path.map = some m →
      ∃ t : State, exec (.ccr moved) s = .next t.served
        ∧ t.run.runState = s.run.runState ∧ t.run.timeBase = s.run.timeBase ∧ t.mem = s.mem
        ∧ t.motion.position = s.motion.position ∧ t.tooth = s.tooth
        ∧ t.path.access = none ∧ t.path.noticeConsumer = 0 ∧ t.path.inboundConsumer = 0 ∧ t.path.outboundProducer = 0
        ∧ t.path.allocated = 0 ∧ t.path.dropped = 0 ∧ t.path.published = s.path.published
        ∧ Group.accesses (resetWrites m) ∈ t.path.waiters
        ∧ Group.notice ⟨0x0103, 1, .warn, wordOf (s.path.dropped % 65536), s.now, 0⟩ ∈ t.path.waiters
        ∧ (∀ k, s.listed k = true → (t.path.slots.get k).state = .idle)
        ∧ (∀ k, s.listed k = false → t.path.slots.get k = s.path.slots.get k)
        ∧ t.sup.direction = .none ∧ t.sup.traction = 0 ∧ t.sup.output = 0
        ∧ t.rbc.word = .apply ∧ t.rbc.serviceDemand = 0 ∧ t.rbc.state ≠ .releasing ∧ t.rbc.state ≠ .released
        ∧ t.rbc.state ≠ .testing
        ∧ (∀ e, (t.entrance e).held = false ∧ (t.entrance e).state = (s.entrance e).state)
        ∧ t.scan.spots = [] ∧ (∀ q ∈ t.prof.reads, q.abandoned = true)
        ∧ t.vlu.transmit = none ∧ t.vlu.reading = none ∧ t.vlu.outboundConsumer = 0
        ∧ t.vlu.authority = s.vlu.authority ∧ t.vlu.restrictions = s.vlu.restrictions ∧ t.vlu.stop = s.vlu.stop)
    ∧ (s.inService = false → Settled s → exec (.ccr moved) s = .next s)

/-! ### The route flash link -/

/-- A FILL ends: its bytes stand in the line buffer, a WAITING lockout becomes SET (R30); a record that fails its checks is
not placed and is reported (R3), as is one that does not meet a neighbour, with that neighbour (R4); one that passes stands
valid in the cache if a way is free or unpinned (R7). The record of a fill that congestion let be carried out for a
PROFILE_READ alone is not placed (R22); that a later request makes the fill an ordinary one is the model's choice
(log 33). -/
def Obligations.FillIsCheckedAndPlaced : Prop :=
  ∀ (s : State) (n : Nat) (discard : Bool) (data : List Byte), s.rfc.inFlight = some (.fill n discard) →
    ∃ t : State, exec (.fill data) s = .next t.entered ∧ t.rfc.lineBuffer = takeBytes 32 data
      ∧ (s.rfc.lockout = .waiting → t.rfc.lockout = .set)
      ∧ t.run = s.run ∧ t.tooth = s.tooth ∧ t.scan = s.scan ∧ t.mem = s.mem ∧ t.motion.speeds = s.motion.speeds
      ∧ (discard = true ∨ n ∈ s.rfc.uncached ∨ recordReason (takeBytes 32 data) n (Cfg.segmentCount s.cfg) ≠ none
            ∨ s.prof.discontinuous (Segment.ofBytes (takeBytes 32 data)) ≠ none →
          ∀ l ∈ t.prof.validLines, ∃ l' ∈ s.prof.validLines, l'.tag = l.tag ∧ l'.bytes = l.bytes)
      ∧ (discard = false → ∀ r, recordReason (takeBytes 32 data) n (Cfg.segmentCount s.cfg) = some r →
          HandsFirst s t (.notice ⟨0x0401, 4, .warn, wordOf (n % 65536 + 2 ^ 16 * r.code), 0, 0⟩))
      ∧ (discard = false → recordReason (takeBytes 32 data) n (Cfg.segmentCount s.cfg) = none →
          ∀ o, s.prof.discontinuous (Segment.ofBytes (takeBytes 32 data)) = some o →
          HandsFirst s t (.notice
            ⟨0x0401, 4, .warn, wordOf (n % 65536 + 2 ^ 16 * Reason.continuity.code), wordOf (o % 65536), 0⟩))
      ∧ (CacheShape s → discard = false → n ∉ s.rfc.uncached →
          recordReason (takeBytes 32 data) n (Cfg.segmentCount s.cfg) = none →
          s.prof.discontinuous (Segment.ofBytes (takeBytes 32 data)) = none →
          (∃ l ∈ s.prof.setOf n, l.valid = false ∨ l.pinned = false) →
            ∃ l ∈ t.prof.validLines, l.tag = n ∧ l.bytes = takeBytes 32 data)

/-- A PROFILE_READ that waits for a FILL completes as its record arrives (R22): the 32 bytes as read go to its buffer, and
the slot completes FAILED with FLASH_FAILED and the reason where a check fails, OK with FLASH where the record is placed, OK
with FLASH_UNCACHED where all four ways are pinned or congestion let the fill be carried out for the read alone. A fill
covered by an invalidation is requested again, and the read waits on. How long a fill asked for in congestion is one is the
model's choice (log 33). -/
def Obligations.WaitingReadsCompleteWithTheirFill : Prop :=
  ∀ (s : State) (m : WindowMap) (n : Nat) (discard : Bool) (data : List Byte) (q : ProfileRead), s.path.map = some m →
    s.rfc.inFlight = some (.fill n discard) → q ∈ s.prof.reads → q.seg = n → q.abandoned = false →
      let bytes := takeBytes 32 data
      let done (c : ResultCode) (results : List Word) : List Group :=
        (wordWrites (.recordWord q.slot) q.buffer (packWords bytes)).map (fun e => Group.accesses [e])
          ++ [completion s m q.slot c results]
      ∃ t : State, exec (.fill data) s = .next t.entered
        ∧ (discard = true → q ∈ t.prof.reads ∧ t.rfc.fillKnown n = true)
        ∧ (discard = false → (∀ x ∈ t.prof.reads, x.seg ≠ n)
          ∧ (∀ r, FailsChecks s n data r → done .failed [3, wordOf r.code] <:+: t.path.handed)
          ∧ (∀ r, PassesChecks s n data r → n ∉ s.rfc.uncached → CacheShape s →
              (∃ l ∈ s.prof.setOf n, l.valid = false ∨ l.pinned = false) → done .ok [1] <:+: t.path.handed)
          ∧ (∀ r, PassesChecks s n data r →
              n ∈ s.rfc.uncached ∨ (∀ l ∈ s.prof.setOf n, l.valid = true ∧ l.pinned = true) →
              done .ok [2] <:+: t.path.handed))

/-- A SERVICE_READ hands each word as it is full, or as the last byte of the count has come, and its clock stands while
that word waits (R24); with every byte moved and the last word taken it ends, and the slot completes OK with the count
(R28). That one command brings the bytes up to the end of a word, and that the last one ends the transaction, is the
model's choice (log 29), as is that one out of its step changes nothing (log 8). -/
def Obligations.ServiceReadHandsItsWords : Prop :=
  (∀ (s : State) (data : List Byte), Settled s → (∀ moved part, s.rfc.inFlight ≠ some (.serviceRead moved part)) →
    exec (.serviceRead data) s = .next s)
  ∧ ∀ (s : State) (m : WindowMap) (c : CurrentFlash) (moved : Nat) (part data : List Byte), Settled s →
    s.path.map = some m → s.rfc.inFlight = some (.serviceRead moved part) → s.rfc.current = some (.flash c) →
    c.step = .readMoving →
      (s.clockStopped c.op.goOrder = true → exec (.serviceRead data) s = .next s)
      ∧ (s.clockStopped c.op.goOrder = false → moved < c.op.count →
        let got := data.take (min (4 - part.length) (c.op.count - moved))
        let all := part ++ got
        let n := moved + got.length
        (all ≠ [] → all.length = 4 ∨ n = c.op.count →
          exec (.serviceRead data) s = .next (State.entered { s with
            rfc := { s.rfc with inFlight := some (.serviceRead n []) }
            path := { s.path with handed :=
              [.accesses [.write (addrOf (c.op.buffer + (n - all.length))) ((packWords all).headD 0) (.flashWord c.op.goOrder)]] } }))
        ∧ (all = [] ∨ (all.length ≠ 4 ∧ n ≠ c.op.count) →
          exec (.serviceRead data) s = .next { s with rfc := { s.rfc with inFlight := some (.serviceRead n all) } }))
      ∧ (s.clockStopped c.op.goOrder = false → c.op.count ≤ moved →
        ∃ t : State, exec (.serviceRead data) s = .next t.entered ∧ HandsFirst s t (completion s m c.op.slot .ok [wordOf c.op.count])
          ∧ (∀ d, t.rfc.current = some (.flash d) → d.op ∈ s.rfc.items) ∧ FieldSideKept s t)

/-- A program or erase goes through its steps: the data read, then WRITE_ENABLE under lockout SET (under WAITING it is ready
and waits), then PROGRAM or ERASE, then polls from 1 ms after its end (R30 to R32). A status poll with the busy bit clear
closes the operation OK; with it set the next poll waits 1 ms, unless the poll limit of 50 ms or 2 000 ms would be passed,
which closes it TIMEOUT (R32, R33). That a command out of its step or before its time changes nothing is the model's choice
(log 8). -/
def Obligations.ProgramAndEraseGoThroughTheirSteps : Prop :=
  (∀ (s : State) (c : CurrentFlash), Settled s → s.inService = true → s.rfc.current = some (.flash c) →
    (∀ n, c.step = .dataReading n → c.op.words ≤ n →
      (s.rfc.lockout = .set →
        ∃ t : State, exec .programDataRead s = .next t.entered ∧ FieldSideKept s t
          ∧ (s.rfc.inFlight = none → t.rfc.inFlight = some .writeEnable
              ∧ t.rfc.current = some (.flash { c with step := .enableMoving }))
          ∧ (∀ x, s.rfc.inFlight = some x → t.rfc.inFlight = some x
              ∧ t.rfc.current = some (.flash { c with step := .enableReady })))
      ∧ (s.rfc.lockout = .waiting →
        ∃ t : State, exec .programDataRead s = .next t.entered ∧ FieldSideKept s t ∧ t.rfc.inFlight = s.rfc.inFlight
          ∧ t.rfc.lockout = .waiting ∧ t.rfc.current = some (.flash { c with step := .enableReady })))
    ∧ ((∀ n, c.step = .dataReading n → n < c.op.words) → exec .programDataRead s = .next s)
    ∧ (c.step ≠ .enableMoving → exec .writeEnable s = .next s)
    ∧ (c.step ≠ .writeMoving → exec .programOrEraseEnd s = .next s)
    ∧ (c.step ≠ .pollWaiting → exec .pollReady s = .next s)
    ∧ (c.step = .enableMoving →
      (c.op.kind = .program → exec .writeEnable s = .next { s with rfc := { s.rfc with
        inFlight := some .program, current := some (.flash { c with step := .writeMoving }) } })
      ∧ (c.op.kind = .erase → exec .writeEnable s = .next { s with rfc := { s.rfc with
        inFlight := some .erase, current := some (.flash { c with step := .writeMoving }) } }))
    ∧ (c.step = .writeMoving → exec .programOrEraseEnd s = .next { s with rfc := { s.rfc with
        inFlight := none
        current := some (.flash
          { c with step := .pollWaiting, ended := s.now, nextPoll := 1, lastPoll := 0, polls := 0 }) } })
    ∧ (c.step = .pollWaiting →
      (elapsed s.now c.ended < c.nextPoll → exec .pollReady s = .next s)
      ∧ (c.nextPoll ≤ elapsed s.now c.ended → s.rfc.lockout = .set → s.rfc.inFlight = none →
        ∃ t : State, exec .pollReady s = .next t.entered ∧ FieldSideKept s t ∧ t.rfc.inFlight = some .statusPoll
          ∧ t.rfc.current = some (.flash
              { c with step := .pollMoving, lastPoll := elapsed s.now c.ended, polls := c.polls + 1 }))))
  ∧ ∀ (s : State) (m : WindowMap) (c : CurrentFlash) (status : Byte),
    s.path.map = some m → s.rfc.current = some (.flash c) → c.step = .pollMoving → c.op.kind ≠ .read →
      let limit := if c.op.kind = .program then 50 else 2000
      ∃ t : State, exec (.statusPoll status) s = .next t.entered ∧ t.rfc.statusByte = status ∧ t.run = s.run ∧ t.mem = s.mem
        ∧ (status.getLsbD (Cfg.busyBit s.cfg) = true → c.lastPoll + 1 ≤ limit →
            t.rfc.current = some (.flash { c with step := .pollWaiting, nextPoll := c.lastPoll + 1 }) ∧ t.prof = s.prof)
        ∧ (status.getLsbD (Cfg.busyBit s.cfg) = false ∨ limit < c.lastPoll + 1 →
            (∀ d, t.rfc.current = some (.flash d) → d.op ∈ s.rfc.items)
            ∧ (c.suppressed = false → ∃ n,
                completion s m c.op.slot (if status.getLsbD (Cfg.busyBit s.cfg) then .timeout else .ok)
                  [wordOf c.lastPoll, wordOf c.polls, wordOf n] ∈ t.path.handed)
            ∧ ∀ l ∈ t.prof.validLines, recordInRange s.cfg c.op.range l.tag = false)

/-! ### The field side -/

/-- The inputs of a channel change: in LOADING and CONFIG_FAULT nothing is counted; in service one change in the UP
order counts +1, one in the DOWN order -1, both phases at once is a phase error reported once, and a count that would
reach 4 is a tooth event, which clears standstill and moves the position by the source channel: pinion A one step,
the wheel one step as its accumulator reaches the pulses of 10 m (R42 to R46, R59 to R64, R67, R161). That polarity
and hysteresis act from the entry to RUN, and not in LOADING and CONFIG_FAULT, is the model's reading (log 36), and the number
of the channel in TOOTH_PHASE_ERROR its choice (log 53). -/
def Obligations.PhaseChangesCountToToothEvents : Prop :=
  ∀ (s : State) (c : Channel) (i1 i2 : InputLevel), Settled s →
    let h := s.tooth.get c
    let c1 := comparator (s.inService && Cfg.hysteresis s.cfg (phaseIndex c)) h.comp1 i1
    let c2 := comparator (s.inService && Cfg.hysteresis s.cfg (phaseIndex c + 1)) h.comp2 i2
    let p1 := c1 != Cfg.inverted s.cfg (phaseIndex c)
    let p2 := c2 != Cfg.inverted s.cfg (phaseIndex c + 1)
    let turn := (phaseCode p1 p2 + 4 - phaseCode h.phase1 h.phase2) % 4
    (s.run.runState = .configFault →
      exec (.phaseChange c i1 i2) s = .next { s with tooth := s.tooth.set c { h with comp1 := c1, comp2 := c2 } })
    ∧ (s.run.runState = .loading → exec (.phaseChange c i1 i2) s =
        .next { s with tooth := s.tooth.set c { h with comp1 := c1, comp2 := c2, phase1 := c1, phase2 := c2 } })
    ∧ (s.inService = true →
      (turn = 0 → exec (.phaseChange c i1 i2) s =
        .next { s with tooth := s.tooth.set c { h with comp1 := c1, comp2 := c2, phase1 := p1, phase2 := p2 } })
      ∧ (∀ w n, (turn = 1 ∧ w = Way.up ∧ n = h.steps + 1) ∨ (turn = 3 ∧ w = .down ∧ n = h.steps - 1) →
        (n.natAbs < 4 → exec (.phaseChange c i1 i2) s = .next { s with
          tooth := s.tooth.set c { h with comp1 := c1, comp2 := c2, phase1 := p1, phase2 := p2, steps := n } })
        ∧ (4 ≤ n.natAbs →
          ∃ t : State, exec (.phaseChange c i1 i2) s = .next t.entered
            ∧ (t.tooth.get c).steps = 0 ∧ (t.tooth.get c).lastEvent = some s.now ∧ (t.tooth.get c).phaseError = false
            ∧ t.motion.standstill = false ∧ t.motion.standstillTimer = s.now ∧ t.mem = s.mem
            ∧ (∀ i, h.interval s.now = some i →
                t.motion.speeds.get c = channelSpeed (Cfg.wheelPulses s.cfg) c i)
            ∧ (h.interval s.now = none → t.motion.speeds = s.motion.speeds)
            ∧ (s.motion.posState ≠ .unknown → s.motion.source = .pinionA → c = .pinionA →
                (t.motion.position : Int) = max 0 (min 199999 ((s.motion.position : Int) + w.delta)))
            ∧ (s.motion.source = .pinionA → c ≠ .pinionA → t.motion.position = s.motion.position)
            ∧ (s.motion.source = .wheel → c = .wheel →
                (s.motion.accumulator + 100 * w.delta).natAbs < Cfg.wheelPulses s.cfg →
                  t.motion.position = s.motion.position ∧ t.motion.accumulator = s.motion.accumulator + 100 * w.delta)
            ∧ (s.motion.posState ≠ .unknown → s.motion.source = .wheel → c = .wheel →
                let sum := s.motion.accumulator + 100 * w.delta
                let pulses : Int := Cfg.wheelPulses s.cfg
                (pulses ≤ sum → sum < 2 * pulses →
                  (t.motion.position : Int) = min 199999 ((s.motion.position : Int) + 1) ∧ t.motion.accumulator = sum - pulses)
                ∧ (sum ≤ -pulses → -2 * pulses < sum →
                  (t.motion.position : Int) = max 0 (min 199999 ((s.motion.position : Int) - 1))
                    ∧ t.motion.accumulator = sum + pulses))
            ∧ (s.motion.posState = .unknown → t.motion.position = s.motion.position)
            ∧ (s.allSecured = false → t.sup.state = .trip ∧ Cause.entranceOpenMoving ∈ t.sup.causes)
            ∧ (s.run.runState = .stabled → h.armed = true → t.run.runState = .run ∧ Cause.rollaway ∈ t.sup.causes)
            ∧ (h.armed = false → t.run = s.run)))
      ∧ (turn = 2 →
        ∃ t : State, exec (.phaseChange c i1 i2) s = .next t.entered
          ∧ t.tooth = s.tooth.set c
              { h with comp1 := c1, comp2 := c2, phase1 := p1, phase2 := p2, steps := 0, phaseError := true }
          ∧ t.motion = s.motion ∧ t.sup = s.sup
          ∧ t.path.handed = s.path.handed ++ (if h.phaseError then [] else
              [.notice ⟨0x0501, 5, .warn,
                wordOf (channelCode c + 2 ^ 8 * phaseCode h.phase1 h.phase2 + 2 ^ 16 * phaseCode p1 p2), 0, 0⟩])))

/-- What a tooth event counts. Pinion A as the source makes one step; the wheel as the source makes as many as its
accumulator, 100 for each event, holds pulses of 10 m, with any number of pulses (R61, stated where no rack record is cached,
so that the source stands). Each step against the direction word counts to the rollback count, whose arrival at 3 is the trip
cause ROLLBACK (R66). On rack the two pinions move D within -3 to 3, from 0 at the first event after a rack entry, and its
arrival at a bound is the trip cause PINION_DISAGREE; elsewhere D stands (R65). -/
def Obligations.ToothEventsCountStepsRollbackAndDifference : Prop :=
  ∀ (s : State) (c : Channel) (i1 i2 : InputLevel) (w : Way), MotionBounds s → MakesToothEvent s c i1 i2 w →
    ∃ t : State, exec (.phaseChange c i1 i2) s = .next t.entered
      ∧ (let against (v : Way) := s.sup.direction = .none ∨ s.sup.direction.code ≠ v.dir.code
        (s.motion.source = .pinionA → c = .pinionA →
          t.motion.rollback = min 3 (s.motion.rollback + if against w then 1 else 0))
        ∧ (s.motion.source.isChannel c = false → t.motion.rollback = s.motion.rollback ∧ t.motion.position = s.motion.position)
        ∧ (s.motion.source = .wheel → c = .wheel → 10 ≤ Cfg.wheelPulses s.cfg →
            s.motion.accumulator.natAbs < Cfg.wheelPulses s.cfg →
            (∀ l ∈ s.prof.validLines, (Segment.ofBytes l.bytes).kind ≠ .rack) →
          let sum := s.motion.accumulator + 100 * w.delta
          let k := sum.tdiv (Cfg.wheelPulses s.cfg)
          t.motion.accumulator = sum.tmod (Cfg.wheelPulses s.cfg)
            ∧ t.motion.rollback = min 3 (s.motion.rollback + if against (if 0 < k then .up else .down) then k.natAbs else 0)
            ∧ (s.motion.posState ≠ .unknown → (t.motion.position : Int) = max 0 (min 199999 ((s.motion.position : Int) + k)))
            ∧ (s.motion.posState = .unknown → t.motion.position = s.motion.position
                ∧ ∀ x, s.motion.pendingCount = some x → x.natAbs ≤ 199999 →
                  t.motion.pendingCount = some (max (-199999) (min 199999 (x + k))))))
      ∧ (t.motion.rollback = 3 → s.motion.rollback ≠ 3 → t.sup.state = .trip ∧ Cause.rollback ∈ t.sup.causes)
      ∧ (let d := if s.motion.rackEntryPending then 0 else s.motion.difference
        let change : Int := if c = .pinionA then w.delta else if c = .pinionB then -w.delta else 0
        (t.prof.refKind = some .rack → t.motion.difference = max (-3) (min 3 (d + change)))
        ∧ (t.prof.refKind ≠ some .rack → t.motion.difference = d)
        ∧ (t.motion.difference.natAbs = 3 → t.motion.difference ≠ d →
            t.sup.state = .trip ∧ Cause.pinionDisagree ∈ t.sup.causes))

/-- 65 535 ms after its last event a channel has no last event and speed 0; 1 500 ms after the last tooth event the
car stands, with every speed 0, no movement, D 0 and rollback 0 (R45, R62 to R66). That both expiries change nothing
before their time is the model's choice (log 8). -/
def Obligations.LongIntervalsEndInStandstill : Prop :=
  ∀ (s : State), Settled s →
    (∀ c, (s.inService = true → ∀ l, (s.tooth.get c).lastEvent = some l → 65535 ≤ elapsed s.now l →
        ∃ t : State, exec (.toothIntervalExpiry c) s = .next t.entered
          ∧ t.tooth = s.tooth.set c { s.tooth.get c with lastEvent := none }
          ∧ t.motion.speeds = s.motion.speeds.set c 0 ∧ t.motion.position = s.motion.position
          ∧ t.motion.standstill = s.motion.standstill ∧ t.run = s.run ∧ t.mem = s.mem)
      ∧ (s.inService = false ∨ (s.tooth.get c).lastEvent = none
          ∨ (∃ l, (s.tooth.get c).lastEvent = some l ∧ elapsed s.now l < 65535) →
        exec (.toothIntervalExpiry c) s = .next s))
    ∧ (s.run.runState ≠ .configFault → s.motion.standstill = false → 1500 ≤ elapsed s.now s.motion.standstillTimer →
        ∃ t : State, exec .standstill s = .next t.entered ∧ t.motion.standstill = true ∧ t.motion.speeds = ⟨0, 0, 0⟩ ∧ t.motion.speed = 0
          ∧ t.motion.movement = .none ∧ t.motion.difference = 0 ∧ t.motion.rollback = 0
          ∧ t.motion.rackEntryPending = false ∧ t.motion.position = s.motion.position
          ∧ t.motion.posState = s.motion.posState ∧ t.tooth = s.tooth ∧ t.run = s.run ∧ t.mem = s.mem)
    ∧ (s.run.runState = .configFault ∨ s.motion.standstill = true ∨ elapsed s.now s.motion.standstillTimer < 1500 →
        exec .standstill s = .next s)

/-- A marker strobe in service: code 0 is reported; in UNKNOWN it is reported while a walk or a search runs, and
otherwise starts a search, from segment 0 where that is not cached; else it is looked up, and a marker found sets the
position: where it agrees CONFIRMED, or DOUBTFUL again where the same code had made it DOUBTFUL, and where it does
not agree DOUBTFUL with MARKER_MISMATCH and the code as correcting code; held at a bound it is DOUBTFUL. Only where the window
then loses the reference segment, and with it the window, does the position become UNKNOWN, and never where the marker's record
holds the position. The track is the marker's, or that of the PRESENT entry the reference point then lies in; where the marker's
entry is PRESENT and its record alone of the cached ones holds the position, the reference segment and the track are its
own (R18, R68 to R70, R73, R76). The correcting code of a correction held at a bound is the model's choice (log 41). -/
def Obligations.MarkerEventsSetThePosition : Prop :=
  ∀ (s : State) (code : BitVec 10), Settled s →
    (s.inService = false → exec (.markerEvent code) s = .next s)
    ∧ (s.inService = true →
      ∃ t : State, exec (.markerEvent code) s = .next t.entered ∧ t.run = s.run ∧ t.tooth = s.tooth ∧ t.scan = s.scan ∧ t.mem = s.mem
        ∧ (code = 0 → HandsFirst s t (.notice ⟨0x0703, 7, .info, 0, 0, 0⟩) ∧ t.motion = s.motion ∧ t.prof = s.prof)
        ∧ (code ≠ 0 → s.motion.posState = .unknown →
          (s.prof.walk ≠ none ∨ s.prof.search ≠ none →
            HandsFirst s t (.notice ⟨0x0405, 4, .info, wordOf code.toNat, 0, 0⟩) ∧ t.motion = s.motion ∧ t.prof = s.prof)
          ∧ (s.prof.walk = none → s.prof.search = none → 0 < Cfg.segmentCount s.cfg → s.prof.recordOf 0 = none →
              s.prof.allPinned 0 = false →
                t.prof.search = some ⟨code.toNat, 0⟩ ∧ t.motion.pendingCount = some 0
                  ∧ t.motion.position = s.motion.position))
        ∧ (code ≠ 0 → s.motion.posState ≠ .unknown →
          (s.prof.lookupMarker code.toNat = none →
            HandsFirst s t (.notice ⟨0x0705, 7, .info, wordOf code.toNat, wordOf s.motion.position, 0⟩)
              ∧ t.motion = s.motion ∧ t.prof = s.prof)
          ∧ (∀ r x, s.prof.lookupMarker code.toNat = some (r, x) →
            let implied : Int := (x : Int) + Cfg.readerOffset s.cfg
            let agrees := s.motion.track = some r.track
              ∧ (implied - s.motion.position).natAbs ≤ Cfg.markerTolerance s.cfg
            let again := s.motion.posState = .doubtful ∧ s.motion.correcting = some code.toNat
            (t.motion.position : Int) = max 0 (min 199999 implied)
            ∧ (t.motion.posState = .unknown → t.prof.refSeg = none ∧ t.prof.window = [] ∧ t.motion.track = none
                ∧ t.motion.correcting = none)
            ∧ (t.motion.posState ≠ .unknown →
              (¬agrees → t.motion.posState = .doubtful ∧ t.motion.correcting = some code.toNat)
              ∧ (agrees → again → t.motion.posState = .doubtful ∧ t.motion.correcting = some code.toNat)
              ∧ (agrees → ¬again → t.motion.correcting = none
                  ∧ t.motion.posState = if 0 ≤ implied ∧ implied ≤ 199999 then .confirmed else .doubtful)
              ∧ (t.motion.track = some r.track ∨ ∃ q, t.prof.refRec = some q ∧ t.motion.track = some q.track))
            ∧ (s.prof.recordOf r.number = some r → r.holds t.motion.position = true →
              t.motion.posState ≠ .unknown ∧ t.prof.window ≠ []
              ∧ (s.prof.presentRec r.number = some r →
                  (∀ l ∈ t.prof.validLines, l.tag ≠ r.number → (Segment.ofBytes l.bytes).holds t.motion.position = false) →
                    t.prof.refSeg = some r.number ∧ t.motion.track = some r.track))
            ∧ (¬agrees → 0 ≤ implied → implied ≤ 199999 →
              HandsFirst s t (.notice ⟨0x0704, 7, .warn, wordOfInt (implied - s.motion.position),
                wordOf (code.toNat + (if s.motion.track = some r.track then Reason.distance.code else Reason.track.code) * 2 ^ 16),
                0⟩)))))

/-- A search or a walk ends in a position, or in none. An anchor accepted in UNKNOWN starts a walk from segment 0 (R16, R72).
As the record that a search waits for arrives, one that lists the code sets the position by it with the movement counted
since, CONFIRMED, with the reference segment (R19, R71); after the last number without it MARKER_UNKNOWN is queued; else the
next number is filled (R18). As the record a walk waits for arrives, one that holds the anchor on its track sets the position
PROVISIONAL; the walk fails with PROFILE_GAP where the record is on another track, a link is missing, 64 links have been
followed, or the record fails a check; else the next record is filled (R16, R72). Out of its range the position is held and
DOUBTFUL (R59). A rebuild that then finds no reference segment loses the position again (R12, R73). The code and the width of
the track in PROFILE_GAP are the model's choice (log 16). -/
def Obligations.SearchesAndWalksSetThePosition : Prop :=
  (∀ (s : State) (units : List Half) (w : Way) (limit : Nat) (choice : LoopSel) (validity p : Nat) (tr : Track), Hearing s →
    Passed s units .authority (.authority w limit choice validity (some (p, tr))) → s.motion.posState = .unknown → UnplacedInv s →
    s.prof.recordOf 0 = none → s.prof.allPinned 0 = false →
      ∃ t : State, exec (.authority units) s = .next t.entered ∧ t.prof.walk = some ⟨p, tr, 0, 0⟩ ∧ t.prof.search = none
        ∧ t.motion.pendingCount = some 0 ∧ t.motion.posState = .unknown ∧ t.rfc.fillKnown 0 = true)
  ∧ (∀ (s : State) (n : Nat) (data : List Byte) (code : Nat), s.prof.search = some ⟨code, n⟩ → s.motion.posState = .unknown →
    s.prof.window = [] → s.prof.walk = none → s.prof.rebuild = none → n < Cfg.segmentCount s.cfg →
      let pending := s.motion.pendingCount.getD 0
      (∀ r x, ArrivesPlaced s n data r → r.markerPos code = some x →
        ∃ t : State, exec (.fill data) s = .next t.entered
          ∧ PlacedAt t n r ((x : Int) + Cfg.readerOffset s.cfg + pending) r.track .confirmed)
      ∧ ((∃ r, ArrivesPlaced s n data r ∧ r.markerPos code = none)
          ∨ (s.rfc.inFlight = some (.fill n false) ∧ ∃ why, FailsChecks s n data why) →
        (n + 1 = Cfg.segmentCount s.cfg →
          ∃ t : State, exec (.fill data) s = .next t.entered ∧ t.prof.search = none ∧ t.motion.pendingCount = none
            ∧ t.motion.posState = .unknown ∧ t.motion.position = s.motion.position
            ∧ Group.notice ⟨0x0404, 4, .info, wordOf (code % 65536), 0, 0⟩ ∈ t.path.handed)
        ∧ (n + 1 < Cfg.segmentCount s.cfg → s.prof.recordOf (n + 1) = none → s.prof.allPinned (n + 1) = false →
          ∃ t : State, exec (.fill data) s = .next t.entered ∧ t.prof.search = some ⟨code, n + 1⟩ ∧ t.rfc.fillKnown (n + 1) = true
            ∧ t.motion.posState = .unknown ∧ t.motion.pendingCount = s.motion.pendingCount)))
  ∧ ∀ (s : State) (n : Nat) (data : List Byte) (p steps : Nat) (tr : Track), s.prof.walk = some ⟨p, tr, n, steps⟩ →
    s.motion.posState = .unknown → s.prof.window = [] → s.prof.search = none → s.prof.rebuild = none →
      let pending := s.motion.pendingCount.getD 0
      (∀ r, ArrivesPlaced s n data r →
        (r.holds p = true →
          (r.track = tr → ∃ t : State, exec (.fill data) s = .next t.entered ∧ PlacedAt t n r ((p : Int) + pending) tr .provisional)
          ∧ (r.track ≠ tr → ∃ t : State, exec (.fill data) s = .next t.entered ∧ WalkFailed s t p tr .wrongTrack))
        ∧ (r.holds p = false →
          let w : Way := if r.stop ≤ p then .up else .down
          (r.next w = none → ∃ t : State, exec (.fill data) s = .next t.entered ∧ WalkFailed s t p tr .lineEnd)
          ∧ (∀ a, r.next w = some a → 64 ≤ steps → ∃ t : State, exec (.fill data) s = .next t.entered ∧ WalkFailed s t p tr .stepLimit)
          ∧ (∀ a, r.next w = some a → steps < 64 →
            let next := if tr = .loopB then (r.alt w).getD a else a
            next ≠ n → s.prof.recordOf next = none → s.prof.allPinned next = false →
              ∃ t : State, exec (.fill data) s = .next t.entered ∧ t.prof.walk = some ⟨p, tr, next, steps + 1⟩
                ∧ t.rfc.fillKnown next = true ∧ t.motion.posState = .unknown
                ∧ t.motion.pendingCount = s.motion.pendingCount)))
      ∧ (s.rfc.inFlight = some (.fill n false) → ∀ why, FailsChecks s n data why →
          ∃ t : State, exec (.fill data) s = .next t.entered ∧ WalkFailed s t p tr .recordBad)

/-- A scan starts one period after the last, as a check scan when one is due or the state is NOT_CHECKED or FAULT;
the end of a field conversion sets the channel's last value and time, and the end of VS ends QUALIFYING in VALID; the
end of a spot conversion adds to its MEASURE and at the last completes it (R50 to R56). What the readings do to the
brake, the incline timer and the windows is stated in ReadingsMoveTheBrakeAndTheWindows. When a scan is due is the
model's reading (log 40), and that the commands with no scan due and no conversion in progress change nothing is its
choice (log 8). -/
def Obligations.ScansConvertTheChannels : Prop :=
  ∀ s : State, Settled s →
    (s.scanDue = true → s.scan.conv = none →
      ∃ t, exec .scanStart s = .next { s with scan := t } ∧ t.started = later s.scan.started (Cfg.scanPeriod s.cfg)
        ∧ (s.scan.checkDue = 0 ∨ s.scan.meas = .notChecked ∨ s.scan.meas = .fault →
            t.conv = some ⟨.cr1, .scanList⟩ ∧ t.list = [.cr2, .pa, .pb, .ps, .ph, .inc, .vs] ∧ t.checkDue = 1)
        ∧ (s.scan.checkDue ≠ 0 → s.scan.meas = .qualifying ∨ s.scan.meas = .valid →
            t.checkDue = (if s.scan.checkDue + 1 = 100 then 0 else s.scan.checkDue + 1)
              ∧ (s.scan.spots = [] → t.conv = some ⟨.pa, .scanList⟩ ∧ t.list = [.pb, .ps, .ph, .inc, .vs])))
    ∧ (s.scanDue = false → exec .scanStart s = .next s)
    ∧ ∀ (code : BitVec 12),
      (s.scan.conv = none → exec (.conversionEnd code) s = .next s)
      ∧ (∀ x, s.scan.conv = some ⟨x, .scanList⟩ → x ≠ .cr1 → x ≠ .cr2 →
        ∃ t : State, exec (.conversionEnd code) s = .next t.entered
          ∧ t.scan.last = s.scan.last.set x ⟨Cfg.scaled s.cfg x.code code.toNat, some s.now⟩
          ∧ (x = .vs → s.scan.meas = .qualifying → t.scan.meas = .valid)
          ∧ (x ≠ .vs ∨ s.scan.meas ≠ .qualifying → t.scan.meas = s.scan.meas)
          ∧ t.mem = s.mem ∧ t.run = s.run ∧ t.tooth = s.tooth
          ∧ (x = .ph → s.scan.meas = .qualifying ∨ s.scan.meas = .valid → t.scan.phWindow = limitState s.scan.phWindow
              (Cfg.scaled s.cfg 3 code.toNat) (Cfg.phLow s.cfg) (Cfg.phHigh s.cfg) (Cfg.phHysteresis s.cfg)))
      ∧ (∀ m k x y, s.path.map = some m → s.scan.conv = some ⟨x, .spot k⟩ → s.scan.spots = [y] → y.slot = k →
        let v : Int := match x with
          | .cr1 => (code.toNat : Int)
          | .cr2 => (code.toNat : Int)
          | x => Cfg.scaled s.cfg x.code code.toNat
        let made := y.made + 1
        let low := if y.made = 0 then v else min y.low v
        let high := if y.made = 0 then v else max y.high v
        ∃ t : State, exec (.conversionEnd code) s = .next t.entered ∧ t.scan.last = s.scan.last ∧ t.scan.meas = s.scan.meas
          ∧ (2 ≤ y.remaining →
              t.scan.spots = [{ y with
                remaining := y.remaining - 1, made := made, sum := y.sum + v, low := low, high := high, lastCode := code.toNat }])
          ∧ (y.remaining = 1 → t.scan.spots = []
              ∧ HandsFirst s t (completion s m k .ok [wordOf made, wordOfInt ((y.sum + v) / (made : Int)), wordOfInt low,
                  wordOfInt high, wordOf code.toNat, wordOf s.scan.meas.code])))

/-- A check reference outside its codes sets FAULT at once, with the trip cause and the notice, and the scan goes on; when
both of a check scan have passed the check passes, and with a failed first one it does not; one converted by a MEASURE is
not judged (R52, R53). -/
def Obligations.CheckReferencesAreJudgedByTheirCodes : Prop :=
  ∀ (s : State) (code : BitVec 12) (x : Source) (lo hi : Nat),
    (x = .cr1 ∧ lo = 803 ∧ hi = 835) ∨ (x = .cr2 ∧ lo = 3212 ∧ hi = 3342) →
      (s.scan.conv = some ⟨x, .scanList⟩ →
        ∃ t : State, exec (.conversionEnd code) s = .next t.entered ∧ t.scan.last = s.scan.last
          ∧ (∀ y rest, s.scan.list = y :: rest → (y = .cr2 ∨ s.scan.spots = []) →
              t.scan.conv = some ⟨y, .scanList⟩ ∧ t.scan.list = rest)
          ∧ (code.toNat < lo ∨ hi < code.toNat →
              t.scan.meas = .fault ∧ (x = .cr1 → t.scan.cr1Passed = false)
                ∧ (∃ w, Group.notice ⟨0x0601, 6, .alarm, w, 0, 0⟩ ∈ t.path.handed)
                ∧ (s.inService = true → t.sup.state = .trip ∧ Cause.measurementFault ∈ t.sup.causes))
          ∧ (lo ≤ code.toNat → code.toNat ≤ hi →
              (x = .cr1 → t.scan.meas = s.scan.meas ∧ t.scan.cr1Passed = true)
              ∧ (x = .cr2 → s.scan.cr1Passed = true →
                  (s.scan.meas = .notChecked ∨ s.scan.meas = .fault → t.scan.meas = .qualifying)
                  ∧ (s.scan.meas = .valid ∨ s.scan.meas = .qualifying → t.scan.meas = s.scan.meas))
              ∧ (x = .cr2 → s.scan.cr1Passed = false → t.scan.meas = s.scan.meas)))
      ∧ (∀ k, s.scan.conv = some ⟨x, .spot k⟩ →
        ∃ t : State, exec (.conversionEnd code) s = .next t.entered ∧ t.scan.meas = s.scan.meas ∧ t.scan.cr1Passed = s.scan.cr1Passed
          ∧ t.scan.last = s.scan.last
          ∧ (∀ y, s.scan.spots = [y] → y.slot = k → 2 ≤ y.remaining →
              ∃ z, t.scan.spots = [z] ∧ z.slot = k ∧ z.lastCode = code.toNat))

/-- The readings of a scan, as their conversions end, in the state trusted (QUALIFYING or VALID). PA and PB: in RELEASING the
two counted readings at or above the release threshold give RELEASED (R102); in APPLYING with the window open, and in
APPLY_FAULT with BRAKE_APPLY_RECOVERED, two below the applied threshold give APPLIED (R106, R108); in RELEASED a reading
below the loss level starts the pinion's loss timer and any other stops it (R110); in TESTING the reading of the tested
pinion passes a release or an apply step or fails a hold (R115, R116); in APPLIED, and untrusted, the brake stands. A trip
that begins in the same event may apply the brake. PS: the weak timer and SERVICE_BRAKE_WEAK (R113). INC: the incline timer,
its notice and DOUBTFUL (R74). PH and VS: the limit windows with their notice, SUPPLY_LOW at the entry of VS to LOW (R55). A
failing check reference queues MEASUREMENT_FAULT with the reference and its code (R53). The model's choices: the 16 bits of
that code, the 16 of the service brake output in SERVICE_BRAKE_WEAK and the channel's code in LIMIT_WINDOW (log 16), that a
failed test names the last reading, which a failed hold has just made (log 50), and that a reading beyond its 16 bits keeps the
low 16 (log 52). -/
def Obligations.ReadingsMoveTheBrakeAndTheWindows : Prop :=
  ∀ (s : State) (code : BitVec 12),
    let trusted := s.scan.meas = .qualifying ∨ s.scan.meas = .valid
    (∀ (p : Pinion) (x : Source), (p = .a ∧ x = .pa) ∨ (p = .b ∧ x = .pb) → s.scan.conv = some ⟨x, .scanList⟩ →
      let v := Cfg.scaled s.cfg x.code code.toNat
      let ca := if p = .a then some v else s.rbc.countedA
      let cb := if p = .b then some v else s.rbc.countedB
      let released := ∃ a b, ca = some a ∧ cb = some b ∧ (Cfg.releaseThreshold s.cfg : Int) ≤ a ∧ (Cfg.releaseThreshold s.cfg : Int) ≤ b
      let applied := ∃ a b, ca = some a ∧ cb = some b ∧ a < Cfg.appliedThreshold s.cfg ∧ b < Cfg.appliedThreshold s.cfg
      let low := v < Cfg.lossLevel s.cfg
      ∃ t : State, exec (.conversionEnd code) s = .next t.entered
        ∧ t.run = s.run ∧ t.tooth = s.tooth ∧ t.motion = s.motion ∧ t.prof = s.prof ∧ t.mem = s.mem
        ∧ (let steady := t.sup.state ≠ .trip ∨ s.sup.state = .trip
          let out := t.rbc.serviceOutput
          (¬trusted ∨ s.rbc.state = .applied → steady ∨ s.rbc.state = .applied → t.rbc = { s.rbc with serviceOutput := out })
          ∧ (trusted → s.rbc.state = .releasing → steady →
            (released → t.rbc = { s.rbc with
              countedA := ca, countedB := cb, state := .released, releaseTimer := none, serviceOutput := out })
            ∧ (¬released → t.rbc = { s.rbc with countedA := ca, countedB := cb, serviceOutput := out }))
          ∧ (trusted → s.rbc.state = .released → steady →
            t.rbc = { s.rbc with
              lossA := if p = .a then (if low then some (s.rbc.lossA.getD s.now) else none) else s.rbc.lossA
              lossB := if p = .b then (if low then some (s.rbc.lossB.getD s.now) else none) else s.rbc.lossB
              serviceOutput := out })
          ∧ (trusted → s.rbc.state = .applying →
            (s.rbc.applyWindow = none → t.rbc = { s.rbc with serviceOutput := out })
            ∧ (s.rbc.applyWindow.isSome = true → applied → t.rbc = { s.rbc with
                countedA := ca, countedB := cb, state := .applied, applyWindow := none
                plan := { s.rbc.plan with reached := 0 }, serviceOutput := out })
            ∧ (s.rbc.applyWindow.isSome = true → ¬applied →
                t.rbc = { s.rbc with countedA := ca, countedB := cb, serviceOutput := out }))
          ∧ (trusted → s.rbc.state = .applyFault →
            (applied → t.rbc = { s.rbc with
                countedA := ca, countedB := cb, state := .applied, applyWindow := none
                plan := { s.rbc.plan with reached := 0 }, serviceOutput := out }
              ∧ HandsFirst s t (.notice ⟨0x0904, 9, .info, 0, 0, 0⟩))
            ∧ (¬applied → t.rbc = { s.rbc with countedA := ca, countedB := cb, serviceOutput := out }))
          ∧ (∀ m b, trusted → s.rbc.state = .testing → s.path.map = some m → s.rbc.test = some b →
            (b.step.pinion ≠ p → steady → t.rbc = { s.rbc with serviceOutput := out })
            ∧ (b.step.pinion = p →
              (b.step = .aHold ∨ b.step = .bHold →
                (low → t.rbc.state = .applying ∧ t.rbc.test = none ∧ t.rbc.testClaim = 0 ∧ t.rbc.setpointA = 0
                  ∧ t.rbc.setpointB = 0 ∧ t.rbc.applyWindow = some s.now
                  ∧ HandsAll s t
                    [completion s m b.slot .failed ([wordOf b.step.code, wordOf (pinionCode p), wordOfInt v] ++ b.times),
                      .notice ⟨0x0906, 9, .warn, wordOf (ResultCode.failed.code + 2 ^ 8 * b.step.code), 0, 0⟩])
                ∧ (¬low → steady → t.rbc = { s.rbc with serviceOutput := out }))
              ∧ (b.step = .aRelease ∨ b.step = .bRelease → steady →
                ((Cfg.releaseThreshold s.cfg : Int) ≤ v → t.rbc.state = .testing
                  ∧ t.rbc.test = some (if p = .a then
                        { b with aRelease := some (elapsed s.now b.start), step := .aHold, start := s.now }
                      else { b with bRelease := some (elapsed s.now b.start), step := .bHold, start := s.now })
                  ∧ t.rbc.setpointA = (if p = .a then 1000 else 0) ∧ t.rbc.setpointB = if p = .b then 1000 else 0)
                ∧ (v < Cfg.releaseThreshold s.cfg → t.rbc = { s.rbc with serviceOutput := out }))
              ∧ (b.step = .aApply → steady →
                (v < Cfg.appliedThreshold s.cfg → t.rbc.state = .testing
                  ∧ t.rbc.test = some { b with aApply := some (elapsed s.now b.start), step := .bRelease, start := s.now }
                  ∧ t.rbc.setpointA = 0 ∧ t.rbc.setpointB = 1000)
                ∧ ((Cfg.appliedThreshold s.cfg : Int) ≤ v → t.rbc = { s.rbc with serviceOutput := out }))
              ∧ (b.step = .bApply →
                (v < Cfg.appliedThreshold s.cfg → t.rbc.state = .applied ∧ t.rbc.test = none ∧ t.rbc.testClaim = 0
                  ∧ t.rbc.setpointA = 0 ∧ t.rbc.setpointB = 0
                  ∧ HandsAll s t
                    [completion s m b.slot .ok ({ b with bApply := some (elapsed s.now b.start) } : BrakeTest).times,
                      .notice ⟨0x0906, 9, .info, wordOf (ResultCode.ok.code + 2 ^ 8 * b.step.code), 0, 0⟩])
                ∧ ((Cfg.appliedThreshold s.cfg : Int) ≤ v → steady → t.rbc = { s.rbc with serviceOutput := out }))))))
    ∧ (s.scan.conv = some ⟨.ps, .scanList⟩ →
      let v := Cfg.scaled s.cfg 2 code.toNat
      let o := s.rbc.serviceOutput
      let expected : Int := Cfg.scaled s.cfg 2 4095 * o / 125
      ∃ t : State, exec (.conversionEnd code) s = .next t.entered
        ∧ (¬trusted → t.rbc.weakTimer = s.rbc.weakTimer ∧ t.rbc.weakFlag = s.rbc.weakFlag)
        ∧ (trusted → o = 0 ∨ expected ≤ v → t.rbc.weakTimer = none ∧ t.rbc.weakFlag = false)
        ∧ (trusted → o ≠ 0 → v < expected →
          t.rbc.weakTimer = some (s.rbc.weakTimer.getD s.now)
          ∧ (∀ l, s.rbc.weakTimer = some l → 1000 ≤ elapsed s.now l → s.rbc.weakFlag = false → t.rbc.weakFlag = true
              ∧ HandsFirst s t (.notice ⟨0x0905, 9, .warn, wordOf (o % 65536 + 2 ^ 16 * (v % 65536).toNat),
                  wordOf (expected % 65536).toNat, 0⟩))
          ∧ (s.rbc.weakTimer = none ∨ s.rbc.weakFlag = true ∨ (∃ l, s.rbc.weakTimer = some l ∧ elapsed s.now l < 1000) →
              t.rbc.weakFlag = s.rbc.weakFlag)))
    ∧ (s.scan.conv = some ⟨.inc, .scanList⟩ →
      let v := Cfg.scaled s.cfg 4 code.toNat
      let compared (r : Segment) := (s.motion.posState = .provisional ∨ s.motion.posState = .confirmed)
        ∧ s.motion.standstill = false ∧ trusted ∧ s.prof.frontRec = some r ∧ (r.start : Int) + 20 ≤ s.frontPoint
        ∧ s.frontPoint ≤ (r.stop : Int) - 21
      ∃ t : State, exec (.conversionEnd code) s = .next t.entered
        ∧ ((∀ r, ¬compared r) → t.motion = s.motion)
        ∧ ∀ r, compared r →
          ((v - r.gradient).natAbs ≤ Cfg.inclineTolerance s.cfg → t.motion = { s.motion with inclineTimer := none })
          ∧ (Cfg.inclineTolerance s.cfg < (v - r.gradient).natAbs →
            (s.motion.inclineTimer = none → t.motion = { s.motion with inclineTimer := some s.now }
              ∧ HandsFirst s t (.notice ⟨0x0706, 7, .warn,
                  wordOf ((v % 65536).toNat + 2 ^ 16 * (r.gradient % 65536).toNat), 0, 0⟩))
            ∧ (∀ l, s.motion.inclineTimer = some l →
              (1000 * Cfg.inclinePersistence s.cfg ≤ elapsed s.now l →
                t.motion = { s.motion with posState := .doubtful, correcting := none, inclineTimer := none })
              ∧ (elapsed s.now l < 1000 * Cfg.inclinePersistence s.cfg → t.motion = s.motion))))
    ∧ (s.scan.conv = some ⟨.ph, .scanList⟩ →
      let v := Cfg.scaled s.cfg 3 code.toNat
      let new := limitState s.scan.phWindow v (Cfg.phLow s.cfg) (Cfg.phHigh s.cfg) (Cfg.phHysteresis s.cfg)
      ∃ t : State, exec (.conversionEnd code) s = .next t.entered ∧ t.scan.vsWindow = s.scan.vsWindow
        ∧ (¬trusted → t.scan.phWindow = s.scan.phWindow)
        ∧ (trusted → t.scan.phWindow = new
          ∧ (new ≠ s.scan.phWindow → HandsFirst s t (.notice ⟨0x0603, 6, if new = .normal then .info else .warn,
              wordOf (3 + 2 ^ 8 * new.code + 2 ^ 16 * (v % 65536).toNat), 0, 0⟩))))
    ∧ (s.scan.conv = some ⟨.vs, .scanList⟩ →
      let v := Cfg.scaled s.cfg 5 code.toNat
      let new := limitState s.scan.vsWindow v (Cfg.vsLow s.cfg) (Cfg.vsHigh s.cfg) (Cfg.vsHysteresis s.cfg)
      ∃ t : State, exec (.conversionEnd code) s = .next t.entered ∧ t.scan.phWindow = s.scan.phWindow
        ∧ (¬trusted → t.scan.vsWindow = s.scan.vsWindow)
        ∧ (trusted → t.scan.vsWindow = new
          ∧ (new ≠ s.scan.vsWindow → HandsFirst s t (.notice ⟨0x0603, 6,
              if new = .normal then .info else if new = .high then .warn else .alarm,
              wordOf (5 + 2 ^ 8 * new.code + 2 ^ 16 * (v % 65536).toNat), 0, 0⟩))
          ∧ (new = .low → s.scan.vsWindow ≠ .low → s.inService = true →
              t.sup.state = .trip ∧ Cause.supplyLow ∈ t.sup.causes)))
    ∧ ∀ x, (x = .cr1 ∧ (code.toNat < 803 ∨ 835 < code.toNat)) ∨ (x = .cr2 ∧ (code.toNat < 3212 ∨ 3342 < code.toNat)) →
      s.scan.conv = some ⟨x, .scanList⟩ →
        ∃ t : State, exec (.conversionEnd code) s = .next t.entered
          ∧ HandsFirst s t (.notice ⟨0x0601, 6, .alarm, wordOf (x.code + 2 ^ 8 * code.toNat), 0, 0⟩)

/-! ### The rack brake's timers -/

/-- 3 000 ms after a release began without both pressures an application starts; stages follow one interval apart; 2 000
ms after the last stage the brake is in APPLY_FAULT and a trip; 500 ms of low pressure while RELEASED starts an
application and a trip (R102, R103, R106, R108, R110). At the time of a test step a hold passes to the next step and a
release or an application fails: the slot completes FAILED with the step, the pinion, its last pressure and the times so
far, and the brake is applied again (R115, R116). That each command before its time or in another state changes nothing is
the model's choice (log 8), as are that the last pressure is the last one taken, trusted or not (log 50), and that a pressure
beyond its 16 bits of a notice keeps the low 16 (log 52). -/
def Obligations.BrakeTimersActAtTheirTime : Prop :=
  (∀ s : State, Settled s →
    (∀ l, s.rbc.state = .releasing → s.rbc.releaseTimer = some l →
      (3000 ≤ elapsed s.now l → ∃ t : State, exec .releaseTimeout s = .next t.entered ∧ FieldSideKept s t
        ∧ Applying s t ∧ AutoApplied s t .releaseTimeout)
      ∧ (elapsed s.now l < 3000 → exec .releaseTimeout s = .next s))
    ∧ (s.rbc.state = .applying → 0 < s.rbc.plan.reached → s.rbc.plan.reached < s.rbc.plan.count →
      (elapsed s.now s.rbc.plan.start < s.rbc.plan.interval * s.rbc.plan.reached → exec .stageReached s = .next s)
      ∧ (s.rbc.plan.interval * s.rbc.plan.reached ≤ elapsed s.now s.rbc.plan.start →
        ∃ t : State, exec .stageReached s = .next t.entered ∧ FieldSideKept s t ∧ t.rbc.state = .applying
          ∧ t.rbc.plan = { s.rbc.plan with reached := s.rbc.plan.reached + 1 }
          ∧ t.rbc.setpointA = min s.rbc.setpointA (1000 * (s.rbc.plan.count - (s.rbc.plan.reached + 1)) / s.rbc.plan.count)
          ∧ t.rbc.setpointB = min s.rbc.setpointB (1000 * (s.rbc.plan.count - (s.rbc.plan.reached + 1)) / s.rbc.plan.count)
          ∧ (s.rbc.plan.reached + 1 = s.rbc.plan.count → t.rbc.applyWindow = some s.now ∧ t.rbc.setpointA = 0)))
    ∧ (∀ w, s.rbc.state = .applying → s.rbc.applyWindow = some w →
      (2000 ≤ elapsed s.now w → ∃ t : State, exec .applyWindowExpiry s = .next t.entered ∧ FieldSideKept s t
        ∧ t.rbc.state = .applyFault ∧ t.rbc.setpointA = 0 ∧ t.rbc.setpointB = 0 ∧ t.rbc.applyWindow = none
        ∧ HandsFirst s t (.notice ⟨0x0903, 9, .alarm,
            wordOf ((s.scan.last.pa.value % 65536).toNat + 2 ^ 16 * (s.scan.last.pb.value % 65536).toNat),
            wordOf (Cfg.appliedThreshold s.cfg % 65536), 0⟩)
        ∧ (s.inService = true → t.sup.state = .trip ∧ Cause.brakeApplyFault ∈ t.sup.causes))
      ∧ (elapsed s.now w < 2000 → exec .applyWindowExpiry s = .next s))
    ∧ (∀ p l, s.rbc.state = .released → s.rbc.loss p = some l →
      (500 ≤ elapsed s.now l → ∃ t : State, exec (.pressureLoss p) s = .next t.entered ∧ FieldSideKept s t
        ∧ Applying s t ∧ AutoApplied s t .pressureLoss
        ∧ (s.inService = true → t.sup.state = .trip ∧ Cause.brakePressureLoss ∈ t.sup.causes))
      ∧ (elapsed s.now l < 500 → exec (.pressureLoss p) s = .next s))
    ∧ (s.rbc.state ≠ .releasing ∨ s.rbc.releaseTimer = none → exec .releaseTimeout s = .next s)
    ∧ (s.rbc.state ≠ .applying → exec .stageReached s = .next s)
    ∧ (s.rbc.state ≠ .applying ∨ s.rbc.applyWindow = none → exec .applyWindowExpiry s = .next s)
    ∧ (∀ p, s.rbc.state ≠ .released ∨ s.rbc.loss p = none → exec (.pressureLoss p) s = .next s)
    ∧ (s.rbc.test = none → exec .testStepExpiry s = .next s))
  ∧ ∀ (s : State) (m : WindowMap) (b : BrakeTest), Settled s → s.path.map = some m → s.rbc.test = some b →
    (elapsed s.now b.start < b.step.limit → exec .testStepExpiry s = .next s)
    ∧ (b.step.limit ≤ elapsed s.now b.start →
      ∃ t : State, exec .testStepExpiry s = .next t.entered ∧ FieldSideKept s t
        ∧ (b.step = .aHold ∨ b.step = .bHold → t.sup.state ≠ .trip ∨ s.sup.state = .trip →
            t.rbc.test = some { b with step := if b.step = .aHold then .aApply else .bApply, start := s.now }
              ∧ t.rbc.setpointA = 0 ∧ t.rbc.setpointB = 0 ∧ t.rbc.state = s.rbc.state)
        ∧ (b.step ≠ .aHold → b.step ≠ .bHold →
            t.rbc.state = .applying ∧ t.rbc.test = none ∧ t.rbc.testClaim = 0 ∧ t.rbc.setpointA = 0 ∧ t.rbc.setpointB = 0
              ∧ t.rbc.applyWindow = some s.now
              ∧ HandsAll s t
                [completion s m b.slot .failed
                    ([wordOf b.step.code, wordOf (pinionCode b.step.pinion), wordOfInt (s.lastPressure b.step.pinion)] ++ b.times),
                  .notice ⟨0x0906, 9, .warn, wordOf (ResultCode.failed.code + 2 ^ 8 * b.step.code), 0, 0⟩]))

/-! ### Entrances -/

/-- The release of a side is judged by R122 at the events of R123, and a side that gains it starts its held requests (R126).
Wherever a step in service leaves the part in service with one of the inputs of R123 changed, both flags stand as judged.
At STANDSTILL, at the end of a permit, at an ENTRANCE_PERMIT that changes the permit and at a reading that moves the rack
brake, exactly the entrances with a held request on a side that has gained release begin UNLOCKING. -/
def Obligations.ReleaseIsJudgedAtItsEvents : Prop :=
  (∀ (c : Instr) (s t : State), exec c s = .next t → s.inService = true → t.inService = true →
    t.releaseInputs ≠ s.releaseInputs → FlagsJudged t)
  ∧ (∀ s : State, s.inService = true → s.motion.standstill = false → 1500 ≤ elapsed s.now s.motion.standstillTimer →
      ∃ t : State, exec .standstill s = .next t.entered ∧ ReleaseJudged s t)
  ∧ (∀ (s : State) (p : Permit), s.inService = true → s.vlu.permit = some p → reached s.now p.deadline = true →
      ∃ t : State, exec .permitExpiry s = .next t.entered ∧ ReleaseJudged s t)
  ∧ (∀ (s : State) (us : List Half) (f : Frame), Hearing s → Passed s us .entrancePermit f →
      ∃ t : State, exec (.entrancePermit us) s = .next t.entered ∧ (t.vlu.permit ≠ s.vlu.permit → ReleaseJudged s t))
  ∧ ∀ (s : State) (code : BitVec 12), s.inService = true →
      ∃ t : State, exec (.conversionEnd code) s = .next t.entered ∧ (t.rbc.state ≠ s.rbc.state → ReleaseJudged s t)

/-- The sensors of an entrance. In LOADING closed-locked is its state. In service its rise brings LOCKING in CLOSING,
starts the settle time in LOCKING, OBSTRUCTED and AJAR, and is only recorded in UNLOCKING, OPENING, OPEN,
CLOSED_LOCKED and ISOLATED; its fall ends UNLOCKING in OPENING (or OPEN where the leaf already stands open, log 21),
stops the settle time in LOCKING, OBSTRUCTED and AJAR, is only recorded in CLOSING, OPENING and OPEN, and in
CLOSED_LOCKED and ISOLATED is a lock loss: AJAR, the held request cancelled, a trip where the car moves, the brake is
not APPLIED or the part is STABLED, a brake test aborted with ENTRANCE. The open end ends OPENING, and an obstruction
in CLOSING reopens up to the configured count; in other states both are only recorded (R117, R120, R126, R129, R131
to R133, R162). That a command with the level as it stands changes nothing is the model's choice (log 8). -/
def Obligations.EntranceSensorsMoveTheEntrance : Prop :=
  ∀ (s : State) (e : Entrance), Settled s →
    let r := s.entrance e
    (∀ level, s.run.runState = .loading →
      exec (.closedLockedInput e level) s = .next (s.setEntrance e
        { r with closedLocked := level, state := if level then .closedLocked else .ajar }))
    ∧ (∀ level, s.run.runState = .configFault →
      exec (.closedLockedInput e level) s = .next (s.setEntrance e { r with closedLocked := level }))
    ∧ (s.inService = true → exec (.closedLockedInput e r.closedLocked) s = .next s)
    ∧ (∀ level, s.inService = false ∨ level = false ∨ r.openEnd = true ∨ r.state ≠ .opening →
      exec (.openEndInput e level) s = .next (s.setEntrance e { r with openEnd := level }))
    ∧ (∀ level, s.inService = false ∨ level = false ∨ r.obstruction = true ∨ r.state ≠ .closing →
      exec (.obstructionInput e level) s = .next (s.setEntrance e { r with obstruction := level }))
    ∧ (s.inService = true → r.closedLocked = true → r.state.secured = true →
      ∃ t : State, exec (.closedLockedInput e false) s = .next t.entered
        ∧ t.entrance e = { r with
            closedLocked := false, state := .ajar, motionTimer := none, settle := none, autoClose := false, held := false
            rewriteWaiting := r.rewriteWaiting || r.held }
        ∧ Group.notice ⟨0x0A08, 10, .alarm, wordOf (e.val + 1 + 2 ^ 8 * r.state.code), 0, 0⟩ ∈ t.path.handed
        ∧ (s.motion.standstill = false ∨ s.rbc.state ≠ .applied ∨ s.run.runState = .stabled →
            t.sup.state = .trip ∧ Cause.entranceUnlocked ∈ t.sup.causes)
        ∧ t.run.runState = .run
        ∧ (s.rbc.state = .released ∨ s.rbc.state = .releasing → t.rbc.state = .applying)
        ∧ (∀ m b, s.rbc.state = .testing → s.path.map = some m → s.rbc.test = some b →
            t.rbc.state = .applying ∧ t.rbc.test = none
              ∧ completion s m b.slot .aborted [wordOf Reason.entrance.code, wordOf b.step.code] ∈ t.path.handed))
    ∧ (s.inService = true → r.held = false →
      (r.closedLocked = false →
        ∃ t : State, exec (.closedLockedInput e true) s = .next t.entered ∧ t.run = s.run ∧ t.motion = s.motion
          ∧ (r.state = .closing → t.entrance e =
              { r with closedLocked := true, state := .locking, motionTimer := some s.now, settle := some s.now })
          ∧ (r.state = .locking ∨ r.state = .obstructed ∨ r.state = .ajar →
              t.entrance e = { r with closedLocked := true, settle := some s.now })
          ∧ (r.state ∈ [EntranceState.unlocking, .opening, .opened, .closedLocked, .isolated] →
              t.entrance e = { r with closedLocked := true }))
      ∧ (r.closedLocked = true →
        ∃ t : State, exec (.closedLockedInput e false) s = .next t.entered
          ∧ (r.state = .unlocking → r.openEnd = false → t.entrance e =
              { r with closedLocked := false, state := .opening, motionTimer := some s.now, settle := none })
          ∧ (r.state = .locking ∨ r.state = .obstructed ∨ r.state = .ajar →
              t.entrance e = { r with closedLocked := false, settle := none })
          ∧ (r.state = .unlocking → r.openEnd = true → r.autoClose = false → t.entrance e =
              { r with closedLocked := false, state := .opened, motionTimer := none, settle := none })
          ∧ (r.state ∈ [EntranceState.closing, .opening, .opened] → t.entrance e = { r with closedLocked := false }))
      ∧ (r.openEnd = false → r.state = .opening →
        ∃ t : State, exec (.openEndInput e true) s = .next t.entered
          ∧ (r.autoClose = false →
              t.entrance e = { r with openEnd := true, state := .opened, motionTimer := none, settle := none })
          ∧ (r.autoClose = true → r.closedLocked = false → t.entrance e =
              { r with openEnd := true, autoClose := false, state := .closing, motionTimer := some s.now, settle := none }))
      ∧ (r.obstruction = false → r.state = .closing →
        ∃ t : State, exec (.obstructionInput e true) s = .next t.entered
          ∧ (r.attempts < Cfg.reopenAttempts s.cfg → r.openEnd = false → t.entrance e =
              { r with
                obstruction := true, attempts := r.attempts + 1, autoClose := true, state := .opening
                motionTimer := some s.now, settle := none })
          ∧ (Cfg.reopenAttempts s.cfg ≤ r.attempts →
              t.entrance e = { r with obstruction := true, state := .obstructed, motionTimer := none, settle := none }
              ∧ HandsFirst s t (.notice ⟨0x0A06, 10, .warn, wordOf (e.val + 1 + 2 ^ 8 * (r.attempts % 65536)), 0, 0⟩))))

/-- The timers of an entrance in service: 50 ms of closed-locked secures it from LOCKING, OBSTRUCTED and AJAR; a
timed motion (UNLOCKING, OPENING, CLOSING, LOCKING) that outlasts its configured time ends in AJAR, where it holds no
request; a held request that outlasts its time is cancelled with a rewrite of its word (R126, R129, R130, R132). That
a LOCKING that times out keeps its settle timer is the model's reading (log 21), and that each command before its
time changes nothing is its choice (log 8). -/
def Obligations.EntranceTimersEndTheMotion : Prop :=
  ∀ (s : State) (e : Entrance), Settled s → s.inService = true →
    let r := s.entrance e
    (∀ l, r.settle = some l →
      (elapsed s.now l < 50 → exec (.settleExpiry e) s = .next s)
      ∧ (50 ≤ elapsed s.now l → r.held = false → r.state = .locking ∨ r.state = .obstructed ∨ r.state = .ajar →
        ∃ t : State, exec (.settleExpiry e) s = .next t.entered
          ∧ t.entrance e = { r with state := .closedLocked, motionTimer := none, settle := none, attempts := 0 }
          ∧ (r.state ≠ .locking → HandsFirst s t (.notice ⟨0x0A07, 10, .info, wordOf (e.val + 1), 0, 0⟩))))
    ∧ (∀ l ms, r.motionTimer = some l → r.state.motionTime s.cfg = some ms →
      (elapsed s.now l < ms → exec (.entranceMotionTimeout e) s = .next s)
      ∧ (ms ≤ elapsed s.now l → r.held = false →
        ∃ t : State, exec (.entranceMotionTimeout e) s = .next t.entered
          ∧ t.entrance e = { r with
              state := .ajar, motionTimer := none, autoClose := false, settle := if r.state = .locking then r.settle else none }
          ∧ HandsFirst s t (.notice ⟨0x0A05, 10, .warn, wordOf (e.val + 1 + 2 ^ 8 * r.state.code), 0, 0⟩)))
    ∧ (r.settle = none → exec (.settleExpiry e) s = .next s)
    ∧ (r.motionTimer = none ∨ r.state.motionTime s.cfg = none → exec (.entranceMotionTimeout e) s = .next s)
    ∧ (r.held = false → exec (.entranceHeldExpired e) s = .next s)
    ∧ (r.held = true →
      (elapsed s.now r.heldTime < 1000 * Cfg.heldTime s.cfg → exec (.entranceHeldExpired e) s = .next s)
      ∧ (1000 * Cfg.heldTime s.cfg ≤ elapsed s.now r.heldTime →
        ∃ t : State, exec (.entranceHeldExpired e) s = .next t.entered
          ∧ t.entrance e = { r with held := false, rewriteWaiting := true }
          ∧ Group.notice ⟨0x0A04, 10, .warn, wordOf (e.val + 1), 0, 0⟩ ∈ t.path.handed
          ∧ (r.rewriteWaiting = false → Group.accesses [.rewrite (.entrance e)] ∈ t.path.handed)))

/-! ### The valley link -/

/-- The five checks of R143 in their order, after the form of the reception (R138): the sum, the kind and the length, the car, the
sequence, the digits and fields of the body. A frame that fails a check changes no record and is reported with its reason; one
for another car is dropped; a repeat of the last accepted sequence queues the kept receipt again (R144). That a frame command ends the reception
under way, or begins and ends one in one event, is the model's choice (log 48). -/
def Obligations.FramesThatFailAreReported : Prop :=
  ∀ (s : State) (units : List Half) (broken : Bool), Hearing s →
    (∀ r, judgeFrame (Cfg.carNumber s.cfg) s.vlu.lastAccepted units broken = .rejected r →
      ∃ t : State, exec (.frameRejected units broken) s = .next t.entered ∧ Received s t ∧ RecordsKept s t
        ∧ t.vlu.lastAccepted = s.vlu.lastAccepted ∧ t.vlu.receipts = s.vlu.receipts
        ∧ (2 ≤ units.length → HandsFirst s t (.notice ⟨0x0B04, 11, .warn,
            wordOf (r.code + 2 ^ 8 * frameKind units + 2 ^ 16 * frameSeq units), 0, 0⟩)))
    ∧ (let judged := judgeFrame (Cfg.carNumber s.cfg) s.vlu.lastAccepted units broken
      let u0 := (unitAt units 0).toNat
      let u1 := (unitAt units 1).toNat
      (broken = true ∨ units.length < 4 ∨ 28 < units.length → judged = .rejected .rejectedForm)
      ∧ (broken = false → 4 ≤ units.length → units.length ≤ 28 →
        (unitSum units % 65536 ≠ 0 → judged = .rejected .rejectedCheck)
        ∧ (unitSum units % 65536 = 0 →
          ((∀ k : InboundKind, u0 / 256 = k.code → ¬(u0 % 256 = units.length ∧ LengthAllowed k units.length)) →
            judged = .rejected .rejectedForm)
          ∧ ∀ k : InboundKind, u0 / 256 = k.code → u0 % 256 = units.length → LengthAllowed k units.length →
            (u1 / 256 ≠ Cfg.carNumber s.cfg → ¬(u1 / 256 = 0 ∧ k = .heartbeat) → judged = .foreign)
            ∧ (u1 / 256 = Cfg.carNumber s.cfg ∨ (u1 / 256 = 0 ∧ k = .heartbeat) →
              ((∃ l, s.vlu.lastAccepted = some l ∧ l.sequence = u1 % 256) → judged = .repeated)
              ∧ ((∀ l, s.vlu.lastAccepted = some l → l.sequence ≠ u1 % 256) →
                (¬ContentAllowed k units → judged = .rejected .malformed)
                ∧ (ContentAllowed k units → ∃ f, judged = .accepted k f))))))
    ∧ (judgeFrame (Cfg.carNumber s.cfg) s.vlu.lastAccepted units false = .foreign →
      ∃ t : State, exec (.frameRejected units false) s = .next t.entered ∧ Received s t ∧ RecordsKept s t
        ∧ t.vlu.lastAccepted = s.vlu.lastAccepted ∧ t.vlu.receipts = s.vlu.receipts)
    ∧ (judgeFrame (Cfg.carNumber s.cfg) s.vlu.lastAccepted units false = .repeated →
      ∃ t : State, exec (.repeatFrame units) s = .next t.entered ∧ Received s t ∧ RecordsKept s t
        ∧ t.vlu.lastAccepted = s.vlu.lastAccepted
        ∧ (∀ l r, s.vlu.lastAccepted = some l → l.result = some r → safetyKind l.kind = true →
            s.vlu.receipts.length < 4 → t.vlu.receipts = s.vlu.receipts ++ [⟨l.kind, l.sequence, r⟩]))

/-- A frame that passes replaces or adds its record, and of the records only that one: the authority with its
deadline, a restriction in its place, at the end, or none with OVERFULL where eight others are held, its lifting with
OVERFULL cleared, the stop mark, the permit; a stop order is a trip. A safety kind owes a receipt with the result of
R151 (LIST_FULL, NOT_HELD, else DONE), queued while fewer than four are held and otherwise dropped with
RECEIPT_DROPPED; HEARTBEAT and TEXT owe none. A frame of any kind but a heartbeat is copied to the INBOUND ring, or
reported with no copy where the ring is full; of a heartbeat no copy is made (R144 to R151). That a frame command ends the
reception under way, or begins and ends one in one event, is the model's choice (log 48). -/
def Obligations.AcceptedFramesSetTheirRecord : Prop :=
  ∀ (s : State) (units : List Half) (k : InboundKind) (f : Frame), Hearing s → Passed s units k f →
    ∃ t : State, exec (frameCommand k units) s = .next t.entered ∧ Received s t
      ∧ t.vlu.lastAccepted = some ⟨frameSeq units, k, receiptDue s f⟩
      ∧ (∀ y, receiptDue s f = some y → safetyKind k = true
          ∧ (s.vlu.receipts.length < 4 → t.vlu.receipts = s.vlu.receipts ++ [⟨k, frameSeq units, y⟩])
          ∧ (4 ≤ s.vlu.receipts.length → t.vlu.receipts = s.vlu.receipts
              ∧ Group.notice ⟨0x0B09, 11, .warn, wordOf (k.code + 2 ^ 8 * frameSeq units), 0, 0⟩ ∈ t.path.handed))
      ∧ (receiptDue s f = none → safetyKind k = false ∧ t.vlu.receipts = s.vlu.receipts ∧ RecordsKept s t)
      ∧ t.vlu.radio ≠ .notHeard ∧ t.vlu.radio ≠ .lost
      ∧ (∀ m, s.path.map = some m → k ≠ .heartbeat → s.inboundFull = false →
          inboundGroup m s.vlu.inboundProducer (takenBuffer s) units s.now ∈ t.path.handed
            ∧ t.vlu.inboundProducer = (s.vlu.inboundProducer + 1) % 16)
      ∧ (k = .heartbeat ∨ s.inboundFull = true → t.vlu.inboundProducer = s.vlu.inboundProducer
          ∧ ∀ b es, Group.inboundCopy b es ∉ t.path.handed.drop s.path.handed.length)
      ∧ (k ≠ .heartbeat → s.inboundFull = true →
          Group.notice ⟨0x0B08, 11, .warn, wordOf (k.code + 2 ^ 8 * frameSeq units), 0, 0⟩ ∈ t.path.handed)
      ∧ (∀ w limit choice validity anchor, f = .authority w limit choice validity anchor →
          t.vlu.authority = some ⟨false, w, limit, choice, later s.now (1000 * validity), none⟩
            ∧ t.vlu.restrictions = s.vlu.restrictions ∧ t.vlu.overfull = s.vlu.overfull ∧ t.vlu.stop = s.vlu.stop
            ∧ t.vlu.permit = s.vlu.permit)
      ∧ (∀ r, f = .restrictionSet r →
          (holdsIdent s.vlu.restrictions r.ident = true →
            t.vlu.restrictions = s.vlu.restrictions.map (fun x => if x.ident = r.ident then r else x)
              ∧ t.vlu.overfull = s.vlu.overfull)
          ∧ (holdsIdent s.vlu.restrictions r.ident = false → s.vlu.restrictions.length < 8 →
            t.vlu.restrictions = s.vlu.restrictions ++ [r] ∧ t.vlu.overfull = s.vlu.overfull)
          ∧ (holdsIdent s.vlu.restrictions r.ident = false → 8 ≤ s.vlu.restrictions.length →
            t.vlu.restrictions = s.vlu.restrictions ∧ t.vlu.overfull = true
              ∧ Group.notice ⟨0x0B06, 11, .warn, wordOf (r.ident % 65536), 0, 0⟩ ∈ t.path.handed)
          ∧ t.vlu.authority = s.vlu.authority ∧ t.vlu.stop = s.vlu.stop ∧ t.vlu.permit = s.vlu.permit)
      ∧ (∀ i, f = .restrictionLift i →
          (holdsIdent s.vlu.restrictions i = true →
            t.vlu.restrictions = s.vlu.restrictions.filter (fun x => x.ident != i) ∧ t.vlu.overfull = false)
          ∧ (holdsIdent s.vlu.restrictions i = false → RecordsKept s t)
          ∧ t.vlu.authority = s.vlu.authority ∧ t.vlu.stop = s.vlu.stop ∧ t.vlu.permit = s.vlu.permit)
      ∧ (f = .stopOrder → t.vlu.stop = .unreleased ∧ t.sup.state = .trip ∧ Cause.valleyStop ∈ t.sup.causes
          ∧ t.vlu.authority = s.vlu.authority ∧ t.vlu.restrictions = s.vlu.restrictions ∧ t.vlu.overfull = s.vlu.overfull
          ∧ t.vlu.permit = s.vlu.permit)
      ∧ (f = .stopRelease → t.vlu.stop = (if s.vlu.stop = .unreleased then .released else s.vlu.stop)
          ∧ t.vlu.authority = s.vlu.authority ∧ t.vlu.restrictions = s.vlu.restrictions ∧ t.vlu.overfull = s.vlu.overfull
          ∧ t.vlu.permit = s.vlu.permit)
      ∧ (∀ side first last validity, f = .permit side first last validity →
          t.vlu.permit = side.map (fun d => ⟨d, first, last, later s.now (1000 * validity)⟩)
            ∧ t.vlu.authority = s.vlu.authority ∧ t.vlu.restrictions = s.vlu.restrictions
            ∧ t.vlu.overfull = s.vlu.overfull ∧ t.vlu.stop = s.vlu.stop)

/-- The authority's limit moves by an AUTHORITY frame alone (R145): in every step an authority that is held afterwards is the
one from before, unchanged or become EXPIRED at its own limit (R146), or it is the record of an AUTHORITY frame that passes
the checks of R143 in that step. -/
def Obligations.AuthorityMovesByAnAuthorityFrame : Prop :=
  ∀ (s t : State) (x : Authority), step s = .next t → t.vlu.authority = some x →
    (∃ a, s.vlu.authority = some a ∧ x.way = a.way ∧ x.limit = a.limit ∧ x.choice = a.choice ∧ x.deadline = a.deadline
        ∧ (x = a ∨ (a.expired = false ∧ x.expired = true)))
      ∨ ∃ c us w limit choice validity anchor, s.pending.head? = some c ∧ frameUnits c = some us
        ∧ judgeFrame (Cfg.carNumber s.cfg) s.vlu.lastAccepted us false
            = .accepted .authority (.authority w limit choice validity anchor)
        ∧ x = ⟨false, w, limit, choice, later s.now (1000 * validity), none⟩

/-- The link's own events in RUN. An overrun suspends the link while a staging buffer is taken. A conflict, in a send or as
LSELM is asserted over a frame that awaits its retry, keeps the frame and counts, the modem's frame is taken where LRDY
allows it, and the eighth resets the link; with nothing to send, LSELM asserted begins a reception; a frame awaits the release
of LSELM without a further conflict. 100 ms after a reset the link is IDLE. LSELM asserted for more than 500 ms is a fault
that abandons the reception and loses the radio (the shadow judgement being current), until it is cleared; an overrun that
outlasts the fault is reported as LSELM is released (R138 to R142).
The moment of the overrun's notice and flag (log 47), LINK_CONFLICT as the assertion of LSELM (log 48), LSELM as taken at its
last assertion (log 37), and that a command whose condition does not hold changes nothing (log 8) are the model's choices. -/
def Obligations.LinkEventsMoveTheTransferState : Prop :=
  ∀ s : State, Settled s → s.run.runState = .run →
    (s.vlu.link = .idle → s.vlu.fault = false → s.vlu.receivingBuffer = none → s.lrdy = false →
      ∃ t : State, exec .linkOverrun s = .next t.entered
        ∧ t.vlu = { s.vlu with
            suspended := !(s.vlu.stage0.isFree && s.vlu.stage1.isFree), lselm := false, overrunning := false }
        ∧ t.path.handed = s.path.handed ++ [.notice ⟨0x0B03, 11, .warn, s.now, 0, 0⟩]
        ∧ FieldSideKept s t ∧ t.sup = s.sup)
    ∧ (s.vlu.link = .sending ∨ (s.vlu.link = .idle ∧ s.vlu.lselm = false ∧ s.vlu.sending.isSome = true) →
      s.vlu.fault = false →
      ∃ t : State, exec .linkConflict s = .next t.entered ∧ FieldSideKept s t ∧ t.vlu.sending = s.vlu.sending ∧ t.vlu.receipts = s.vlu.receipts
        ∧ (s.vlu.conflicts < 7 → t.vlu.conflicts = s.vlu.conflicts + 1
            ∧ t.vlu.link = (if s.vlu.lselm = false ∧ s.lrdy = true then .receiving else .idle)
            ∧ t.path.handed = s.path.handed)
        ∧ (7 ≤ s.vlu.conflicts → t.vlu.conflicts = 0 ∧ t.vlu.link = .resetWait ∧ t.vlu.resetTime = s.now
            ∧ t.path.handed = s.path.handed ++ [.notice ⟨0x0B01, 11, .warn, s.now, 0, 0⟩]))
    ∧ (s.vlu.link = .idle → s.vlu.fault = false →
      (s.vlu.lselm = true → s.vlu.sending.isSome = true ∨ (s.vlu.receipts = [] ∧ s.vlu.alarmPending = false ∧ s.vlu.transmit = none) →
        exec .linkConflict s = .next s)
      ∧ (s.vlu.lselm = false → s.lrdy = true → s.vlu.sending = none → s.vlu.receipts = [] → s.vlu.alarmPending = false →
          s.vlu.transmit = none →
        ∃ t : State, exec .linkConflict s = .next t.entered ∧ FieldSideKept s t ∧ t.path = s.path ∧ t.vlu.link = .receiving
          ∧ t.vlu.lselm = true ∧ t.vlu.lselmTime = s.now ∧ t.vlu.receivingBuffer.isSome = true
          ∧ t.vlu.conflicts = s.vlu.conflicts)
      ∧ (s.vlu.lselm = false → s.lrdy = false → s.vlu.sending = none → s.vlu.receipts = [] → s.vlu.alarmPending = false →
          s.vlu.transmit = none →
        exec .linkConflict s =
          .next { s with vlu := { s.vlu with lselm := true, lselmTime := s.now, overrunning := true } }))
    ∧ (s.vlu.link = .resetWait →
      (elapsed s.now s.vlu.resetTime < 100 → exec .resetWaitEnd s = .next s)
      ∧ (100 ≤ elapsed s.now s.vlu.resetTime → exec .resetWaitEnd s = .next { s with
          vlu := { s.vlu with link := if s.vlu.receivingBuffer.isSome then .receiving else .idle } }))
    ∧ (s.vlu.link = .idle ∨ s.vlu.link = .receiving → s.vlu.fault = false →
      (s.vlu.lselm = false ∨ elapsed s.now s.vlu.lselmTime ≤ 500 → exec .linkFault s = .next s)
      ∧ (s.vlu.lselm = true → 500 < elapsed s.now s.vlu.lselmTime →
        ∃ t : State, exec .linkFault s = .next t.entered ∧ FieldSideKept s t ∧ t.vlu.fault = true ∧ t.vlu.lselm = true
          ∧ t.vlu.overrunning = s.vlu.overrunning
          ∧ t.vlu.receivingBuffer = (if s.vlu.stage0 = .receiving ∧ s.vlu.stage1 = .receiving then some true else none)
          ∧ (ShadowCurrent s → t.vlu.radio = .lost)
          ∧ Group.notice ⟨0x0B02, 11, .alarm, 0, 0, 0⟩ ∈ t.path.handed))
    ∧ (s.vlu.link ≠ .resetWait → exec .resetWaitEnd s = .next s)
    ∧ (s.vlu.fault = false → exec .linkFaultCleared s = .next s)
    ∧ (s.vlu.fault = true → s.vlu.overrunning = false → exec .linkFaultCleared s =
        .next { s with vlu := { s.vlu with fault := false, lselm := false, link := .idle } })
    ∧ (s.vlu.fault = true → s.vlu.overrunning = true → exec .linkFaultCleared s = .next (State.entered { s with
        vlu := { s.vlu with
          fault := false, lselm := false, link := .idle, overrunning := false
          suspended := !(s.vlu.stage0.isFree && s.vlu.stage1.isFree) }
        path := { s.path with handed := [.notice ⟨0x0B03, 11, .warn, s.now, 0, 0⟩] } }))

/-- A send attempt on an idle link sends the frame that waits, else a receipt, else the own alarm, else the frame of
the transmit buffer (while SHADOWED only an ALARM), under the next sequence and with units that sum to 0; one that
finds LSELM asserted is a conflict, and the frame awaits the release; a frame sent leaves its queue, and one detached
by CCR leaves none; an OUTBOUND slot read whole becomes the transmit buffer, or is skipped with a notice (R138, R139,
R151, R153, R155). The widths of OUTBOUND_REFUSED's parameters are the model's choice (log 16), as is that a slot not
read whole changes nothing (log 8). -/
def Obligations.FramesAreSentInTheirOrder : Prop :=
  ∀ s : State, Settled s →
    (s.run.runState = .run → s.vlu.link = .idle → s.vlu.fault = false → s.vlu.lselm = false →
      (∀ f, s.vlu.sending = some f → exec .sendAttempt s =
        .next { s with vlu := { s.vlu with link := .sending, sending := some { f with begun := true } } })
      ∧ (s.vlu.sending = none → s.vlu.receipts ≠ [] ∨ s.vlu.alarmPending = true →
        ∃ us, exec .sendAttempt s = .next { s with vlu := { s.vlu with
            link := .sending
            outSequence := (s.vlu.outSequence + 1) % 256
            sending := some ⟨us, if s.vlu.receipts = [] then .alarm else .receipt, true⟩ } }
          ∧ unitSum us % 65536 = 0 ∧ us.length = (if s.vlu.receipts = [] then 9 else 6)
          ∧ frameKind us = (if s.vlu.receipts = [] then 0x43 else 0x44))
      ∧ (s.vlu.sending = none → s.vlu.receipts = [] → s.vlu.alarmPending = false → s.vlu.transmit = none →
        exec .sendAttempt s = .next s)
      ∧ (∀ x, s.vlu.sending = none → s.vlu.receipts = [] → s.vlu.alarmPending = false → s.vlu.transmit = some x →
        (frameKind x.units = 0x43 ∨ s.vlu.radio ≠ .shadowed →
          ∃ us, exec .sendAttempt s = .next { s with vlu := { s.vlu with
              link := .sending
              outSequence := (s.vlu.outSequence + 1) % 256
              sending := some ⟨us, .outbound, true⟩ } }
            ∧ unitSum us % 65536 = 0 ∧ unitAt us 0 = unitAt x.units 0
            ∧ unitAt us 1 = BitVec.ofNat 16 (Cfg.carNumber s.cfg * 256 + (s.vlu.outSequence + 1) % 256))
        ∧ (frameKind x.units ≠ 0x43 → s.vlu.radio = .shadowed → exec .sendAttempt s = .next s)))
    ∧ (s.run.runState = .run → s.vlu.link = .idle → s.vlu.fault = false → s.vlu.lselm = true →
      (s.vlu.sending.isSome = true → exec .sendAttempt s = .next s)
      ∧ (s.vlu.sending = none → s.vlu.receipts ≠ [] ∨ s.vlu.alarmPending = true →
        ∃ t : State, ∃ f, exec .sendAttempt s = .next t.entered ∧ t.vlu.sending = some f ∧ f.begun = false
          ∧ f.source = (if s.vlu.receipts = [] then .alarm else .receipt)
          ∧ (s.vlu.conflicts < 7 → t.vlu.conflicts = s.vlu.conflicts + 1 ∧ t.vlu.link = .idle ∧ t.path = s.path)
          ∧ (7 ≤ s.vlu.conflicts → t.vlu.conflicts = 0 ∧ t.vlu.link = .resetWait ∧ t.vlu.resetTime = s.now)))
    ∧ (∀ f, s.run.runState = .run → s.vlu.link = .sending → s.vlu.sending = some f →
      (f.source = .detached → exec .frameSent s = .next { s with vlu := { s.vlu with
        link := .idle, conflicts := 0, sending := none } })
      ∧ (f.source = .receipt → exec .frameSent s = .next { s with vlu := { s.vlu with
        link := .idle, conflicts := 0, sending := none, receipts := s.vlu.receipts.tail } })
      ∧ (f.source = .alarm → exec .frameSent s = .next { s with vlu := { s.vlu with
        link := .idle, conflicts := 0, sending := none, alarmPending := false } })
      ∧ (f.source = .outbound → ∀ m, s.path.map = some m →
        ∃ t : State, exec .frameSent s = .next t.entered ∧ t.vlu.link = .idle ∧ t.vlu.sending = none ∧ t.vlu.transmit = none
          ∧ t.vlu.outboundConsumer = (s.vlu.outboundConsumer + 1) % 16
          ∧ HandsFirst s t (.accesses [.write (addrOf (m.outbound + 4)) (wordOf ((s.vlu.outboundConsumer + 1) % 16))
              (.outboundConsumer ((s.vlu.outboundConsumer + 1) % 16))])))
    ∧ (∀ r m, s.vlu.reading = some r → s.path.map = some m →
      (r.words.length ≠ 16 → exec .outboundSlotRead s = .next s)
      ∧ (r.words.length = 16 →
        let us := slotUnits r.words
        let len := (unitAt us 0).toNat % 256
        (outboundPasses (frameKind us) len = true → exec .outboundSlotRead s =
          .next { s with vlu := { s.vlu with reading := none, transmit := some ⟨r.slot, us.take len⟩ } })
        ∧ (outboundPasses (frameKind us) len = false →
          ∃ t : State, exec .outboundSlotRead s = .next t.entered ∧ t.vlu.outboundConsumer = (s.vlu.outboundConsumer + 1) % 16
            ∧ t.vlu.transmit = none
            ∧ HandsFirst s t (.notice ⟨0x0B0C, 11, .warn,
                wordOf (r.slot % 256 + 2 ^ 8 * (frameKind us % 256) + 2 ^ 16 * len), 0, 0⟩))))

/-- At its deadline an authority is EXPIRED with an expiry target before the front and the ceiling is 0; a permit
ends; the radio is LOST when the link-loss time or the shadow allowance is used up (the shadow judgement being
current); each is reported (R146, R149, R152). That each command before its deadline, or with its record or timer not
running, changes nothing is the model's choice (log 8). -/
def Obligations.DeadlinesEndTheValleyRecords : Prop :=
  ∀ s : State, Settled s → s.inService = true →
    (s.vlu.authority = none ∨ (∃ a, s.vlu.authority = some a ∧ a.expired = true) → exec .authorityExpiry s = .next s)
    ∧ (s.vlu.permit = none → exec .permitExpiry s = .next s)
    ∧ (s.vlu.linkLoss = none ∨ s.vlu.radio ≠ .up → exec .linkLossExpiry s = .next s)
    ∧ (s.vlu.radio ≠ .shadowed → exec .shadowExpiry s = .next s)
    ∧ (∀ a, s.vlu.authority = some a → a.expired = false →
      (reached s.now a.deadline = false → exec .authorityExpiry s = .next s)
      ∧ (reached s.now a.deadline = true →
        ∃ t : State, ∃ p, exec .authorityExpiry s = .next t.entered ∧ FieldSideKept s t
          ∧ t.vlu.authority = some { a with expired := true, expiry := some p }
          ∧ (p : Int) = max 0 (min 199999 (match a.way with
              | .up => (s.motion.position : Int) + Cfg.expiryAllowance s.cfg
              | .down => (s.motion.position : Int) - Cfg.carLength s.cfg - Cfg.expiryAllowance s.cfg))
          ∧ HandsFirst s t (.notice ⟨0x0B05, 11, .warn, wordOf a.limit, wordOf p, 0⟩)
          ∧ t.sup.ceiling = 0 ∧ (s.sup.output ≤ s.sup.traction → t.sup.output = 0)))
    ∧ (∀ p, s.vlu.permit = some p →
      (reached s.now p.deadline = false → exec .permitExpiry s = .next s)
      ∧ (reached s.now p.deadline = true →
        ∃ t : State, exec .permitExpiry s = .next t.entered ∧ FieldSideKept s t ∧ t.vlu.permit = none
          ∧ t.vlu.authority = s.vlu.authority ∧ HandsFirst s t (.notice ⟨0x0B07, 11, .info, 0, 0, 0⟩)))
    ∧ (∀ d, s.vlu.linkLoss = some d → s.vlu.radio = .up →
      (reached s.now d = false → exec .linkLossExpiry s = .next s)
      ∧ (reached s.now d = true →
        ∃ t : State, exec .linkLossExpiry s = .next t.entered ∧ FieldSideKept s t ∧ t.vlu.linkLoss = none
          ∧ (ShadowCurrent s → t.vlu.radio = .lost)
          ∧ HandsFirst s t (.notice ⟨0x0B0A, 11, .warn, wordOf Reason.linkLoss.code, s.now, 0⟩)))
    ∧ (∀ d n, s.vlu.shadow = .active d n → s.vlu.radio = .shadowed →
      (reached s.now d = false → exec .shadowExpiry s = .next s)
      ∧ (reached s.now d = true →
        ∃ t : State, exec .shadowExpiry s = .next t.entered ∧ FieldSideKept s t
          ∧ (ShadowCurrent s → t.vlu.radio = .lost)
          ∧ HandsFirst s t (.notice ⟨0x0B0A, 11, .warn, wordOf Reason.shadowExhausted.code, s.now, 0⟩)))

/-! ### Trips -/

/-- A trip is latched: in every step the state stays TRIP with its first cause and the causes of its set, but for a
TRIP_CLEAR handed over and for power-on (R87, R89). -/
def Obligations.TripIsLatched : Prop :=
  ∀ s t : State, s.sup.state = .trip → step s = .next t →
    (t.sup.state = .trip ∧ t.sup.firstCause = s.sup.firstCause ∧ t.sup.tripTime = s.sup.tripTime ∧ s.sup.causes <+: t.sup.causes)
      ∨ s.pending.head? = some .powerOnReset ∨ ∃ k, s.pending.head? = some (.slotDispatch k)
          ∧ (s.path.slots.get k).op = BitVec.ofNat 8 Operation.tripClear.code
end

