-- ==== Sys2Proof/Laws/Ops.lean ====
section
/-! SUPPORT. What each shared operation of Machine/Ops.lean leaves as it was: one lemma for each operation, which names
every part of the state the operation does not change. An operation that only hands groups changes the handed groups of
the Path Unit and nothing else (R168). -/

namespace Sys2Proof.Machine

/-- The Path Unit but for the groups the event has handed. -/
def PathUnit.still (p : PathUnit) : PathUnit := { p with handed := [] }

/-- The Route Flash Controller but for its waiting fills and what is noted of them. -/
def RfcUnit.still (r : RfcUnit) : RfcUnit := { r with fills := [], uncached := [] }

@[simp] theorem PathUnit.still_handed (p : PathUnit) (gs : List Group) :
    PathUnit.still { p with handed := gs } = p.still := rfl

@[simp] theorem RfcUnit.still_fills (r : RfcUnit) (ns : List Nat) : RfcUnit.still { r with fills := ns } = r.still := rfl

@[simp] theorem RfcUnit.still_uncached (r : RfcUnit) (ns : List Nat) :
    RfcUnit.still { r with uncached := ns } = r.still := rfl

/-- A fold keeps what each of its steps keeps. -/
theorem foldl_keeps {α β σ : Type} (π : σ → β) (f : σ → α → σ) (h : ∀ s x, π (f s x) = π s) :
    ∀ (xs : List α) (s : σ), π (xs.foldl f s) = π s := by
  intro xs
  induction xs with
  | nil => intro s; rfl
  | cons x xs ih => intro s; rw [List.foldl_cons, ih, h]

/-- The handed groups have only grown at their end: each is noted in the order it is handed (R168). -/
def Grows (p q : PathUnit) : Prop := p.handed <+: q.handed

@[simp] theorem Grows.refl (p : PathUnit) : Grows p p := List.prefix_refl _

theorem Grows.hand {p q : PathUnit} (h : Grows p q) (gs : List Group) : Grows p { q with handed := q.handed ++ gs } :=
  h.trans (List.prefix_append _ _)

/-- A draw moves the counter of the free values and nothing else. -/
@[simp] theorem State.drawn_frame (s : State) :
    s.drawn.run = s.run ∧ s.drawn.path = s.path ∧ s.drawn.rfc = s.rfc ∧ s.drawn.prof = s.prof ∧
    s.drawn.tooth = s.tooth ∧ s.drawn.scan = s.scan ∧ s.drawn.motion = s.motion ∧ s.drawn.sup = s.sup ∧
    s.drawn.rbc = s.rbc ∧ s.drawn.ent = s.ent ∧ s.drawn.vlu = s.vlu ∧ s.drawn.mem = s.mem ∧
    s.drawn.pending = s.pending := by
  exact ⟨rfl, rfl, rfl, rfl, rfl, rfl, rfl, rfl, rfl, rfl, rfl, rfl, rfl⟩

/-- Handing a group changes the handed groups only. -/
@[simp] theorem State.hand_frame (s : State) (g : Group) :
    (s.hand g).run = s.run ∧ (s.hand g).path.still = s.path.still ∧ (s.hand g).rfc = s.rfc ∧
    (s.hand g).prof = s.prof ∧ (s.hand g).tooth = s.tooth ∧ (s.hand g).scan = s.scan ∧ (s.hand g).motion = s.motion ∧
    (s.hand g).sup = s.sup ∧ (s.hand g).rbc = s.rbc ∧ (s.hand g).ent = s.ent ∧ (s.hand g).vlu = s.vlu ∧
    (s.hand g).mem = s.mem ∧ (s.hand g).freeIndex = s.freeIndex ∧ (s.hand g).pending = s.pending := by
  exact ⟨rfl, rfl, rfl, rfl, rfl, rfl, rfl, rfl, rfl, rfl, rfl, rfl, rfl, rfl⟩

@[simp] theorem State.hand_grows (s : State) (g : Group) {p : PathUnit} (h : Grows p s.path) : Grows p (s.hand g).path := h.hand _

/-- Handing accesses changes the handed groups only. -/
@[simp] theorem State.handEach_frame (s : State) (es : List QEntry) :
    (s.handEach es).run = s.run ∧ (s.handEach es).path.still = s.path.still ∧ (s.handEach es).rfc = s.rfc ∧
    (s.handEach es).prof = s.prof ∧ (s.handEach es).tooth = s.tooth ∧ (s.handEach es).scan = s.scan ∧
    (s.handEach es).motion = s.motion ∧ (s.handEach es).sup = s.sup ∧ (s.handEach es).rbc = s.rbc ∧
    (s.handEach es).ent = s.ent ∧ (s.handEach es).vlu = s.vlu ∧ (s.handEach es).mem = s.mem ∧
    (s.handEach es).freeIndex = s.freeIndex ∧ (s.handEach es).pending = s.pending := by
  exact ⟨rfl, rfl, rfl, rfl, rfl, rfl, rfl, rfl, rfl, rfl, rfl, rfl, rfl, rfl⟩

@[simp] theorem State.handEach_grows (s : State) (es : List QEntry) {p : PathUnit} (h : Grows p s.path) : Grows p (s.handEach es).path := h.hand _

/-- Queueing a notice changes the handed groups only. -/
@[simp] theorem State.noticeWords_frame (s : State) (u : UnitId) (row : Nat) (sev : Severity) (w2 w3 : Word) :
    (s.noticeWords u row sev w2 w3).run = s.run ∧ (s.noticeWords u row sev w2 w3).path.still = s.path.still ∧
    (s.noticeWords u row sev w2 w3).rfc = s.rfc ∧ (s.noticeWords u row sev w2 w3).prof = s.prof ∧
    (s.noticeWords u row sev w2 w3).tooth = s.tooth ∧ (s.noticeWords u row sev w2 w3).scan = s.scan ∧
    (s.noticeWords u row sev w2 w3).motion = s.motion ∧ (s.noticeWords u row sev w2 w3).sup = s.sup ∧
    (s.noticeWords u row sev w2 w3).rbc = s.rbc ∧ (s.noticeWords u row sev w2 w3).ent = s.ent ∧
    (s.noticeWords u row sev w2 w3).vlu = s.vlu ∧ (s.noticeWords u row sev w2 w3).mem = s.mem ∧
    (s.noticeWords u row sev w2 w3).freeIndex = s.freeIndex ∧ (s.noticeWords u row sev w2 w3).pending = s.pending := by
  exact ⟨rfl, rfl, rfl, rfl, rfl, rfl, rfl, rfl, rfl, rfl, rfl, rfl, rfl, rfl⟩

@[simp] theorem State.noticeWords_grows (s : State) (u : UnitId) (row : Nat) (sev : Severity) (w2 w3 : Word) {p : PathUnit} (h : Grows p s.path) : Grows p (s.noticeWords u row sev w2 w3).path := h.hand _

/-- Queueing a notice changes the handed groups only. -/
@[simp] theorem State.notice_frame (s : State) (u : UnitId) (row : Nat) (sev : Severity) (ps : List Param) :
    (s.notice u row sev ps).run = s.run ∧ (s.notice u row sev ps).path.still = s.path.still ∧
    (s.notice u row sev ps).rfc = s.rfc ∧ (s.notice u row sev ps).prof = s.prof ∧
    (s.notice u row sev ps).tooth = s.tooth ∧ (s.notice u row sev ps).scan = s.scan ∧
    (s.notice u row sev ps).motion = s.motion ∧ (s.notice u row sev ps).sup = s.sup ∧
    (s.notice u row sev ps).rbc = s.rbc ∧ (s.notice u row sev ps).ent = s.ent ∧ (s.notice u row sev ps).vlu = s.vlu ∧
    (s.notice u row sev ps).mem = s.mem ∧ (s.notice u row sev ps).freeIndex = s.freeIndex ∧
    (s.notice u row sev ps).pending = s.pending := by
  exact ⟨rfl, rfl, rfl, rfl, rfl, rfl, rfl, rfl, rfl, rfl, rfl, rfl, rfl, rfl⟩

@[simp] theorem State.notice_grows (s : State) (u : UnitId) (row : Nat) (sev : Severity) (ps : List Param) {p : PathUnit} (h : Grows p s.path) : Grows p (s.notice u row sev ps).path := h.hand _

/-- An absorbed write changes the handed groups only: nothing reaches memory (R166). -/
@[simp] theorem State.writeRefused_frame (s : State) (a : Access) (r : Reason) :
    (s.writeRefused a r).run = s.run ∧ (s.writeRefused a r).path.still = s.path.still ∧
    (s.writeRefused a r).rfc = s.rfc ∧ (s.writeRefused a r).prof = s.prof ∧ (s.writeRefused a r).tooth = s.tooth ∧
    (s.writeRefused a r).scan = s.scan ∧ (s.writeRefused a r).motion = s.motion ∧ (s.writeRefused a r).sup = s.sup ∧
    (s.writeRefused a r).rbc = s.rbc ∧ (s.writeRefused a r).ent = s.ent ∧ (s.writeRefused a r).vlu = s.vlu ∧
    (s.writeRefused a r).mem = s.mem ∧ (s.writeRefused a r).freeIndex = s.freeIndex ∧
    (s.writeRefused a r).pending = s.pending := by
  exact ⟨rfl, rfl, rfl, rfl, rfl, rfl, rfl, rfl, rfl, rfl, rfl, rfl, rfl, rfl⟩

@[simp] theorem State.writeRefused_grows (s : State) (a : Access) (r : Reason) {p : PathUnit} (h : Grows p s.path) : Grows p (s.writeRefused a r).path := h.hand _

/-- Rewrite waiting belongs to the owner of the word. -/
@[simp] theorem State.setRewriteWaiting_frame (s : State) (w : Guarded) (b : Bool) :
    (s.setRewriteWaiting w b).run = s.run ∧ (s.setRewriteWaiting w b).path = s.path ∧
    (s.setRewriteWaiting w b).rfc = s.rfc ∧ (s.setRewriteWaiting w b).prof = s.prof ∧
    (s.setRewriteWaiting w b).tooth = s.tooth ∧ (s.setRewriteWaiting w b).scan = s.scan ∧
    (s.setRewriteWaiting w b).motion = s.motion ∧ (s.setRewriteWaiting w b).vlu = s.vlu ∧
    (s.setRewriteWaiting w b).mem = s.mem ∧ (s.setRewriteWaiting w b).freeIndex = s.freeIndex ∧
    (s.setRewriteWaiting w b).pending = s.pending := by
  cases w <;> exact ⟨rfl, rfl, rfl, rfl, rfl, rfl, rfl, rfl, rfl, rfl, rfl⟩

/-- Rewrite waiting of traction is in its owner only. -/
@[simp] theorem State.setRewriteWaiting_traction (s : State) (b : Bool) :
    (s.setRewriteWaiting .traction b).run = s.run ∧ (s.setRewriteWaiting .traction b).path = s.path ∧
    (s.setRewriteWaiting .traction b).rfc = s.rfc ∧ (s.setRewriteWaiting .traction b).prof = s.prof ∧
    (s.setRewriteWaiting .traction b).tooth = s.tooth ∧ (s.setRewriteWaiting .traction b).scan = s.scan ∧
    (s.setRewriteWaiting .traction b).motion = s.motion ∧ (s.setRewriteWaiting .traction b).rbc = s.rbc ∧
    (s.setRewriteWaiting .traction b).ent = s.ent ∧ (s.setRewriteWaiting .traction b).vlu = s.vlu ∧
    (s.setRewriteWaiting .traction b).mem = s.mem ∧ (s.setRewriteWaiting .traction b).freeIndex = s.freeIndex ∧
    (s.setRewriteWaiting .traction b).pending = s.pending := by
  exact ⟨rfl, rfl, rfl, rfl, rfl, rfl, rfl, rfl, rfl, rfl, rfl, rfl, rfl⟩

/-- Rewrite waiting of rackBrake is in its owner only. -/
@[simp] theorem State.setRewriteWaiting_rackBrake (s : State) (b : Bool) :
    (s.setRewriteWaiting .rackBrake b).run = s.run ∧ (s.setRewriteWaiting .rackBrake b).path = s.path ∧
    (s.setRewriteWaiting .rackBrake b).rfc = s.rfc ∧ (s.setRewriteWaiting .rackBrake b).prof = s.prof ∧
    (s.setRewriteWaiting .rackBrake b).tooth = s.tooth ∧ (s.setRewriteWaiting .rackBrake b).scan = s.scan ∧
    (s.setRewriteWaiting .rackBrake b).motion = s.motion ∧ (s.setRewriteWaiting .rackBrake b).sup = s.sup ∧
    (s.setRewriteWaiting .rackBrake b).ent = s.ent ∧ (s.setRewriteWaiting .rackBrake b).vlu = s.vlu ∧
    (s.setRewriteWaiting .rackBrake b).mem = s.mem ∧ (s.setRewriteWaiting .rackBrake b).freeIndex = s.freeIndex ∧
    (s.setRewriteWaiting .rackBrake b).pending = s.pending := by
  exact ⟨rfl, rfl, rfl, rfl, rfl, rfl, rfl, rfl, rfl, rfl, rfl, rfl, rfl⟩

/-- Rewrite waiting of entrance is in its owner only. -/
@[simp] theorem State.setRewriteWaiting_entrance (s : State) (e : Entrance) (b : Bool) :
    (s.setRewriteWaiting (.entrance e) b).run = s.run ∧ (s.setRewriteWaiting (.entrance e) b).path = s.path ∧
    (s.setRewriteWaiting (.entrance e) b).rfc = s.rfc ∧ (s.setRewriteWaiting (.entrance e) b).prof = s.prof ∧
    (s.setRewriteWaiting (.entrance e) b).tooth = s.tooth ∧ (s.setRewriteWaiting (.entrance e) b).scan = s.scan ∧
    (s.setRewriteWaiting (.entrance e) b).motion = s.motion ∧ (s.setRewriteWaiting (.entrance e) b).sup = s.sup ∧
    (s.setRewriteWaiting (.entrance e) b).rbc = s.rbc ∧ (s.setRewriteWaiting (.entrance e) b).vlu = s.vlu ∧
    (s.setRewriteWaiting (.entrance e) b).mem = s.mem ∧
    (s.setRewriteWaiting (.entrance e) b).freeIndex = s.freeIndex ∧
    (s.setRewriteWaiting (.entrance e) b).pending = s.pending := by
  exact ⟨rfl, rfl, rfl, rfl, rfl, rfl, rfl, rfl, rfl, rfl, rfl, rfl, rfl⟩

/-- Handing a rewrite changes the handed groups and the owner's rewrite waiting. -/
@[simp] theorem State.handRewrite_frame (s : State) (w : Guarded) :
    (s.handRewrite w).run = s.run ∧ (s.handRewrite w).path.still = s.path.still ∧ (s.handRewrite w).rfc = s.rfc ∧
    (s.handRewrite w).prof = s.prof ∧ (s.handRewrite w).tooth = s.tooth ∧ (s.handRewrite w).scan = s.scan ∧
    (s.handRewrite w).motion = s.motion ∧ (s.handRewrite w).vlu = s.vlu ∧ (s.handRewrite w).mem = s.mem ∧
    (s.handRewrite w).freeIndex = s.freeIndex ∧ (s.handRewrite w).pending = s.pending := by
  unfold State.handRewrite
  split <;> simp

@[simp] theorem State.handRewrite_grows (s : State) (w : Guarded) {p : PathUnit} (h : Grows p s.path) : Grows p (s.handRewrite w).path := by
  unfold State.handRewrite
  split <;> simp [h]

/-- A rewrite handed for traction changes the handed groups and its owner only. -/
@[simp] theorem State.handRewrite_traction (s : State) :
    (s.handRewrite .traction).run = s.run ∧ (s.handRewrite .traction).path.still = s.path.still ∧
    (s.handRewrite .traction).rfc = s.rfc ∧ (s.handRewrite .traction).prof = s.prof ∧
    (s.handRewrite .traction).tooth = s.tooth ∧ (s.handRewrite .traction).scan = s.scan ∧
    (s.handRewrite .traction).motion = s.motion ∧ (s.handRewrite .traction).rbc = s.rbc ∧
    (s.handRewrite .traction).ent = s.ent ∧ (s.handRewrite .traction).vlu = s.vlu ∧
    (s.handRewrite .traction).mem = s.mem ∧ (s.handRewrite .traction).freeIndex = s.freeIndex ∧
    (s.handRewrite .traction).pending = s.pending := by
  unfold State.handRewrite
  split <;> simp

/-- A rewrite handed for rackBrake changes the handed groups and its owner only. -/
@[simp] theorem State.handRewrite_rackBrake (s : State) :
    (s.handRewrite .rackBrake).run = s.run ∧ (s.handRewrite .rackBrake).path.still = s.path.still ∧
    (s.handRewrite .rackBrake).rfc = s.rfc ∧ (s.handRewrite .rackBrake).prof = s.prof ∧
    (s.handRewrite .rackBrake).tooth = s.tooth ∧ (s.handRewrite .rackBrake).scan = s.scan ∧
    (s.handRewrite .rackBrake).motion = s.motion ∧ (s.handRewrite .rackBrake).sup = s.sup ∧
    (s.handRewrite .rackBrake).ent = s.ent ∧ (s.handRewrite .rackBrake).vlu = s.vlu ∧
    (s.handRewrite .rackBrake).mem = s.mem ∧ (s.handRewrite .rackBrake).freeIndex = s.freeIndex ∧
    (s.handRewrite .rackBrake).pending = s.pending := by
  unfold State.handRewrite
  split <;> simp

/-- A rewrite handed for entrance changes the handed groups and its owner only. -/
@[simp] theorem State.handRewrite_entrance (s : State) (e : Entrance) :
    (s.handRewrite (.entrance e)).run = s.run ∧ (s.handRewrite (.entrance e)).path.still = s.path.still ∧
    (s.handRewrite (.entrance e)).rfc = s.rfc ∧ (s.handRewrite (.entrance e)).prof = s.prof ∧
    (s.handRewrite (.entrance e)).tooth = s.tooth ∧ (s.handRewrite (.entrance e)).scan = s.scan ∧
    (s.handRewrite (.entrance e)).motion = s.motion ∧ (s.handRewrite (.entrance e)).sup = s.sup ∧
    (s.handRewrite (.entrance e)).rbc = s.rbc ∧ (s.handRewrite (.entrance e)).vlu = s.vlu ∧
    (s.handRewrite (.entrance e)).mem = s.mem ∧ (s.handRewrite (.entrance e)).freeIndex = s.freeIndex ∧
    (s.handRewrite (.entrance e)).pending = s.pending := by
  unfold State.handRewrite
  split <;> simp

/-- An entering group moves its entries into the queue and nothing else. -/
@[simp] theorem State.pushEntering_frame (s : State) :
    s.pushEntering.run = s.run ∧ s.pushEntering.rfc = s.rfc ∧ s.pushEntering.prof = s.prof ∧
    s.pushEntering.tooth = s.tooth ∧ s.pushEntering.scan = s.scan ∧ s.pushEntering.motion = s.motion ∧
    s.pushEntering.sup = s.sup ∧ s.pushEntering.rbc = s.rbc ∧ s.pushEntering.ent = s.ent ∧
    s.pushEntering.vlu = s.vlu ∧ s.pushEntering.mem = s.mem ∧ s.pushEntering.freeIndex = s.freeIndex ∧
    s.pushEntering.pending = s.pending := by
  exact ⟨rfl, rfl, rfl, rfl, rfl, rfl, rfl, rfl, rfl, rfl, rfl, rfl, rfl⟩

/-- Withdrawing a rewrite changes the queue, the waiters and the owner's rewrite waiting. -/
@[simp] theorem State.dropRewrite_frame (s : State) (w : Guarded) :
    (s.dropRewrite w).run = s.run ∧ (s.dropRewrite w).rfc = s.rfc ∧ (s.dropRewrite w).prof = s.prof ∧
    (s.dropRewrite w).tooth = s.tooth ∧ (s.dropRewrite w).scan = s.scan ∧ (s.dropRewrite w).motion = s.motion ∧
    (s.dropRewrite w).vlu = s.vlu ∧ (s.dropRewrite w).mem = s.mem ∧ (s.dropRewrite w).freeIndex = s.freeIndex ∧
    (s.dropRewrite w).pending = s.pending := by
  simp [State.dropRewrite]

/-- A slot record is in the Path Unit. -/
@[simp] theorem State.setSlot_frame (s : State) (k : Slot) (r : SlotRec) :
    (s.setSlot k r).run = s.run ∧ (s.setSlot k r).rfc = s.rfc ∧ (s.setSlot k r).prof = s.prof ∧
    (s.setSlot k r).tooth = s.tooth ∧ (s.setSlot k r).scan = s.scan ∧ (s.setSlot k r).motion = s.motion ∧
    (s.setSlot k r).sup = s.sup ∧ (s.setSlot k r).rbc = s.rbc ∧ (s.setSlot k r).ent = s.ent ∧
    (s.setSlot k r).vlu = s.vlu ∧ (s.setSlot k r).mem = s.mem ∧ (s.setSlot k r).freeIndex = s.freeIndex ∧
    (s.setSlot k r).pending = s.pending := by
  exact ⟨rfl, rfl, rfl, rfl, rfl, rfl, rfl, rfl, rfl, rfl, rfl, rfl, rfl⟩

/-- A completion is handed as one group (R176). -/
@[simp] theorem State.complete_frame (s : State) (k : Slot) (c : ResultCode) (ws : List Word) :
    (s.complete k c ws).run = s.run ∧ (s.complete k c ws).path.still = s.path.still ∧
    (s.complete k c ws).rfc = s.rfc ∧ (s.complete k c ws).prof = s.prof ∧ (s.complete k c ws).tooth = s.tooth ∧
    (s.complete k c ws).scan = s.scan ∧ (s.complete k c ws).motion = s.motion ∧ (s.complete k c ws).sup = s.sup ∧
    (s.complete k c ws).rbc = s.rbc ∧ (s.complete k c ws).ent = s.ent ∧ (s.complete k c ws).vlu = s.vlu ∧
    (s.complete k c ws).mem = s.mem ∧ (s.complete k c ws).freeIndex = s.freeIndex ∧
    (s.complete k c ws).pending = s.pending := by
  unfold State.complete
  split <;> simp

@[simp] theorem State.complete_grows (s : State) (k : Slot) (c : ResultCode) (ws : List Word) {p : PathUnit} (h : Grows p s.path) : Grows p (s.complete k c ws).path := by
  unfold State.complete
  split <;> simp [h]

/-- A completion REFUSED is handed as one group (R176). -/
@[simp] theorem State.completeRefused_frame (s : State) (k : Slot) (r : Reason) (d : Nat) :
    (s.completeRefused k r d).run = s.run ∧ (s.completeRefused k r d).path.still = s.path.still ∧
    (s.completeRefused k r d).rfc = s.rfc ∧ (s.completeRefused k r d).prof = s.prof ∧
    (s.completeRefused k r d).tooth = s.tooth ∧ (s.completeRefused k r d).scan = s.scan ∧
    (s.completeRefused k r d).motion = s.motion ∧ (s.completeRefused k r d).sup = s.sup ∧
    (s.completeRefused k r d).rbc = s.rbc ∧ (s.completeRefused k r d).ent = s.ent ∧
    (s.completeRefused k r d).vlu = s.vlu ∧ (s.completeRefused k r d).mem = s.mem ∧
    (s.completeRefused k r d).freeIndex = s.freeIndex ∧ (s.completeRefused k r d).pending = s.pending := by
  simp [State.completeRefused]

@[simp] theorem State.completeRefused_grows (s : State) (k : Slot) (r : Reason) (d : Nat) {p : PathUnit} (h : Grows p s.path) : Grows p (s.completeRefused k r d).path := by
  simp [State.completeRefused, h]

end Sys2Proof.Machine
end

