-- ==== Sys2Proof/Laws/Window.lean ====
section
/-! SUPPORT. What each operation on the route window and the position leaves as it was (R8 to R14, R59 to R72). -/

namespace Sys2Proof.Machine

/-- Changes at most the handed groups. -/
@[simp] theorem State.positionRange_frame (s : State) (b : Nat) (w : Way) :
    (s.positionRange b w).run = s.run ∧ (s.positionRange b w).path.still = s.path.still ∧
    (s.positionRange b w).rfc = s.rfc ∧ (s.positionRange b w).prof = s.prof ∧ (s.positionRange b w).tooth = s.tooth ∧
    (s.positionRange b w).scan = s.scan ∧ (s.positionRange b w).motion = s.motion ∧
    (s.positionRange b w).sup = s.sup ∧ (s.positionRange b w).rbc = s.rbc ∧ (s.positionRange b w).ent = s.ent ∧
    (s.positionRange b w).vlu = s.vlu ∧ (s.positionRange b w).mem = s.mem ∧
    (s.positionRange b w).freeIndex = s.freeIndex ∧ (s.positionRange b w).pending = s.pending := by
  unfold State.positionRange
  try dsimp only
  (repeat' split) <;> simp

@[simp] theorem State.positionRange_grows (s : State) (b : Nat) (w : Way) {old : PathUnit} (h : Grows old s.path) :
    Grows old (s.positionRange b w).path := by
  unfold State.positionRange
  try dsimp only
  (repeat' split) <;> simp (maxDischargeDepth := 40) [h]

/-- Changes at most the waiting fills. -/
@[simp] theorem State.addFill_frame (s : State) (n : Nat) :
    (s.addFill n).run = s.run ∧
    (s.addFill n).path = s.path ∧
    (s.addFill n).rfc.still = s.rfc.still ∧
    (s.addFill n).tooth = s.tooth ∧
    (s.addFill n).scan = s.scan ∧
    (s.addFill n).motion = s.motion ∧
    (s.addFill n).sup = s.sup ∧
    (s.addFill n).rbc = s.rbc ∧
    (s.addFill n).ent = s.ent ∧
    (s.addFill n).vlu = s.vlu ∧
    (s.addFill n).mem = s.mem ∧
    (s.addFill n).freeIndex = s.freeIndex ∧
    (s.addFill n).pending = s.pending ∧
    (s.addFill n).prof = s.prof := by
  simp [State.addFill]

/-- Changes at most the waiting fills. -/
@[simp] theorem State.askFill_frame (s : State) (n : Nat) :
    (s.askFill n).run = s.run ∧ (s.askFill n).path = s.path ∧ (s.askFill n).rfc.still = s.rfc.still ∧
    (s.askFill n).prof = s.prof ∧ (s.askFill n).tooth = s.tooth ∧ (s.askFill n).scan = s.scan ∧
    (s.askFill n).motion = s.motion ∧ (s.askFill n).sup = s.sup ∧ (s.askFill n).rbc = s.rbc ∧
    (s.askFill n).ent = s.ent ∧ (s.askFill n).vlu = s.vlu ∧ (s.askFill n).mem = s.mem ∧
    (s.askFill n).freeIndex = s.freeIndex ∧ (s.askFill n).pending = s.pending := by
  unfold State.askFill
  try dsimp only
  (repeat' split) <;> simp

/-- Changes at most the waiting fills. -/
@[simp] theorem State.askRead_frame (s : State) (n : Nat) :
    (s.askRead n).run = s.run ∧
    (s.askRead n).path = s.path ∧
    (s.askRead n).rfc.still = s.rfc.still ∧
    (s.askRead n).tooth = s.tooth ∧
    (s.askRead n).scan = s.scan ∧
    (s.askRead n).motion = s.motion ∧
    (s.askRead n).sup = s.sup ∧
    (s.askRead n).rbc = s.rbc ∧
    (s.askRead n).ent = s.ent ∧
    (s.askRead n).vlu = s.vlu ∧
    (s.askRead n).mem = s.mem ∧
    (s.askRead n).freeIndex = s.freeIndex ∧
    (s.askRead n).pending = s.pending ∧
    (s.askRead n).prof = s.prof := by
  unfold State.askRead
  try dsimp only
  (repeat' split) <;> simp

/-- Changes at most the handed groups. -/
@[simp] theorem State.congestionNotice_frame (s : State) (n : Nat) :
    (s.congestionNotice n).run = s.run ∧ (s.congestionNotice n).path.still = s.path.still ∧
    (s.congestionNotice n).rfc = s.rfc ∧ (s.congestionNotice n).prof = s.prof ∧
    (s.congestionNotice n).tooth = s.tooth ∧ (s.congestionNotice n).scan = s.scan ∧
    (s.congestionNotice n).motion = s.motion ∧ (s.congestionNotice n).sup = s.sup ∧
    (s.congestionNotice n).rbc = s.rbc ∧ (s.congestionNotice n).ent = s.ent ∧ (s.congestionNotice n).vlu = s.vlu ∧
    (s.congestionNotice n).mem = s.mem ∧ (s.congestionNotice n).freeIndex = s.freeIndex ∧
    (s.congestionNotice n).pending = s.pending := by
  unfold State.congestionNotice
  try dsimp only
  (repeat' split) <;> simp

@[simp] theorem State.congestionNotice_grows (s : State) (n : Nat) {old : PathUnit} (h : Grows old s.path) :
    Grows old (s.congestionNotice n).path := by
  unfold State.congestionNotice
  try dsimp only
  (repeat' split) <;> simp (maxDischargeDepth := 40) [h]

/-- Changes at most the Profile Unit. -/
@[simp] theorem State.refreshEnd_frame (s : State) :
    s.refreshEnd.run = s.run ∧ s.refreshEnd.path = s.path ∧ s.refreshEnd.rfc = s.rfc ∧ s.refreshEnd.tooth = s.tooth ∧
    s.refreshEnd.scan = s.scan ∧ s.refreshEnd.motion = s.motion ∧ s.refreshEnd.sup = s.sup ∧
    s.refreshEnd.rbc = s.rbc ∧ s.refreshEnd.ent = s.ent ∧ s.refreshEnd.vlu = s.vlu ∧ s.refreshEnd.mem = s.mem ∧
    s.refreshEnd.freeIndex = s.freeIndex ∧ s.refreshEnd.pending = s.pending := by
  unfold State.refreshEnd
  try dsimp only
  (repeat' split) <;> simp

/-- Changes at most the Profile Unit. -/
@[simp] theorem State.setEntry_frame (s : State) (n : Nat) (st : EntryState) (t : Option Track) :
    (s.setEntry n st t).run = s.run ∧ (s.setEntry n st t).path = s.path ∧ (s.setEntry n st t).rfc = s.rfc ∧
    (s.setEntry n st t).tooth = s.tooth ∧ (s.setEntry n st t).scan = s.scan ∧ (s.setEntry n st t).motion = s.motion ∧
    (s.setEntry n st t).sup = s.sup ∧ (s.setEntry n st t).rbc = s.rbc ∧ (s.setEntry n st t).ent = s.ent ∧
    (s.setEntry n st t).vlu = s.vlu ∧ (s.setEntry n st t).mem = s.mem ∧ (s.setEntry n st t).freeIndex = s.freeIndex ∧
    (s.setEntry n st t).pending = s.pending := by
  unfold State.setEntry
  try dsimp only
  (repeat' split) <;> simp

/-- Changes at most the Profile Unit, the waiting fills. -/
@[simp] theorem State.retry_frame (s : State) (e : Entry) :
    (s.retry e).run = s.run ∧
    (s.retry e).path = s.path ∧
    (s.retry e).rfc.still = s.rfc.still ∧
    (s.retry e).tooth = s.tooth ∧
    (s.retry e).scan = s.scan ∧
    (s.retry e).motion = s.motion ∧
    (s.retry e).sup = s.sup ∧
    (s.retry e).rbc = s.rbc ∧
    (s.retry e).ent = s.ent ∧
    (s.retry e).vlu = s.vlu ∧
    (s.retry e).mem = s.mem ∧
    (s.retry e).freeIndex = s.freeIndex ∧
    (s.retry e).pending = s.pending := by
  unfold State.retry
  try dsimp only
  (repeat' split) <;> simp

/-- The state in which a fold of entries that ask again leaves the other parts. -/
theorem retryAll_frame (xs : List Entry) (s : State) :
    (xs.foldl State.retry s).run = s.run ∧
    (xs.foldl State.retry s).path = s.path ∧
    (xs.foldl State.retry s).rfc.still = s.rfc.still ∧
    (xs.foldl State.retry s).tooth = s.tooth ∧
    (xs.foldl State.retry s).scan = s.scan ∧
    (xs.foldl State.retry s).motion = s.motion ∧
    (xs.foldl State.retry s).sup = s.sup ∧
    (xs.foldl State.retry s).rbc = s.rbc ∧
    (xs.foldl State.retry s).ent = s.ent ∧
    (xs.foldl State.retry s).vlu = s.vlu ∧
    (xs.foldl State.retry s).mem = s.mem ∧
    (xs.foldl State.retry s).freeIndex = s.freeIndex ∧
    (xs.foldl State.retry s).pending = s.pending := by
  induction xs generalizing s with
  | nil => simp
  | cons x xs ih => simp [ih]

/-- Changes at most the Profile Unit, the waiting fills. -/
@[simp] theorem State.retrySets_frame (s : State) (f : Nat → Bool) :
    (s.retrySets f).run = s.run ∧
    (s.retrySets f).path = s.path ∧
    (s.retrySets f).rfc.still = s.rfc.still ∧
    (s.retrySets f).tooth = s.tooth ∧
    (s.retrySets f).scan = s.scan ∧
    (s.retrySets f).motion = s.motion ∧
    (s.retrySets f).sup = s.sup ∧
    (s.retrySets f).rbc = s.rbc ∧
    (s.retrySets f).ent = s.ent ∧
    (s.retrySets f).vlu = s.vlu ∧
    (s.retrySets f).mem = s.mem ∧
    (s.retrySets f).freeIndex = s.freeIndex ∧
    (s.retrySets f).pending = s.pending := by
  simp [State.retrySets, retryAll_frame]

/-- Changes at most the Profile Unit, the waiting fills. -/
@[simp] theorem State.unpin_frame (s : State) (n : Nat) :
    (s.unpin n).run = s.run ∧ (s.unpin n).path = s.path ∧ (s.unpin n).rfc.still = s.rfc.still ∧
    (s.unpin n).tooth = s.tooth ∧ (s.unpin n).scan = s.scan ∧ (s.unpin n).motion = s.motion ∧
    (s.unpin n).sup = s.sup ∧ (s.unpin n).rbc = s.rbc ∧ (s.unpin n).ent = s.ent ∧ (s.unpin n).vlu = s.vlu ∧
    (s.unpin n).mem = s.mem ∧ (s.unpin n).freeIndex = s.freeIndex ∧ (s.unpin n).pending = s.pending := by
  simp [State.unpin]

/-- Changes at most the Profile Unit, the waiting fills, the handed groups. -/
@[simp] theorem State.seek_frame (s : State) (n : Nat) :
    (s.seek n).2.run = s.run ∧ (s.seek n).2.path.still = s.path.still ∧ (s.seek n).2.rfc.still = s.rfc.still ∧
    (s.seek n).2.tooth = s.tooth ∧ (s.seek n).2.scan = s.scan ∧ (s.seek n).2.motion = s.motion ∧
    (s.seek n).2.sup = s.sup ∧ (s.seek n).2.rbc = s.rbc ∧ (s.seek n).2.ent = s.ent ∧ (s.seek n).2.vlu = s.vlu ∧
    (s.seek n).2.mem = s.mem ∧ (s.seek n).2.freeIndex = s.freeIndex ∧ (s.seek n).2.pending = s.pending := by
  unfold State.seek
  try dsimp only
  (repeat' split) <;> simp

@[simp] theorem State.seek_grows (s : State) (n : Nat) {old : PathUnit} (h : Grows old s.path) :
    Grows old (s.seek n).2.path := by
  unfold State.seek
  try dsimp only
  (repeat' split) <;> simp (maxDischargeDepth := 40) [h]

/-- Changes at most the Profile Unit, the waiting fills, the handed groups. -/
@[simp] theorem State.joinTail_frame (s : State) (n : Nat) (v : LinkKind) (t : Option Track) :
    (s.joinTail n v t).run = s.run ∧ (s.joinTail n v t).path.still = s.path.still ∧
    (s.joinTail n v t).rfc.still = s.rfc.still ∧ (s.joinTail n v t).tooth = s.tooth ∧ (s.joinTail n v t).scan = s.scan ∧
    (s.joinTail n v t).motion = s.motion ∧ (s.joinTail n v t).sup = s.sup ∧ (s.joinTail n v t).rbc = s.rbc ∧
    (s.joinTail n v t).ent = s.ent ∧ (s.joinTail n v t).vlu = s.vlu ∧ (s.joinTail n v t).mem = s.mem ∧
    (s.joinTail n v t).freeIndex = s.freeIndex ∧ (s.joinTail n v t).pending = s.pending := by
  unfold State.joinTail
  try dsimp only
  (repeat' split) <;> simp

@[simp] theorem State.joinTail_grows (s : State) (n : Nat) (v : LinkKind) (t : Option Track) {old : PathUnit} (h : Grows old s.path) :
    Grows old (s.joinTail n v t).path := by
  unfold State.joinTail
  try dsimp only
  (repeat' split) <;> simp (maxDischargeDepth := 40) [h]

/-- Changes at most the Profile Unit, the waiting fills, the handed groups. -/
@[simp] theorem State.joinHead_frame (s : State) (n : Nat) (v : LinkKind) (t : Option Track) :
    (s.joinHead n v t).run = s.run ∧ (s.joinHead n v t).path.still = s.path.still ∧
    (s.joinHead n v t).rfc.still = s.rfc.still ∧ (s.joinHead n v t).tooth = s.tooth ∧ (s.joinHead n v t).scan = s.scan ∧
    (s.joinHead n v t).motion = s.motion ∧ (s.joinHead n v t).sup = s.sup ∧ (s.joinHead n v t).rbc = s.rbc ∧
    (s.joinHead n v t).ent = s.ent ∧ (s.joinHead n v t).vlu = s.vlu ∧ (s.joinHead n v t).mem = s.mem ∧
    (s.joinHead n v t).freeIndex = s.freeIndex ∧ (s.joinHead n v t).pending = s.pending := by
  unfold State.joinHead
  try dsimp only
  (repeat' split) <;> simp

@[simp] theorem State.joinHead_grows (s : State) (n : Nat) (v : LinkKind) (t : Option Track) {old : PathUnit} (h : Grows old s.path) :
    Grows old (s.joinHead n v t).path := by
  unfold State.joinHead
  try dsimp only
  (repeat' split) <;> simp (maxDischargeDepth := 40) [h]

/-- Changes at most the Profile Unit, the waiting fills. -/
@[simp] theorem State.released_frame (s : State) (e : Entry) :
    (s.released e).run = s.run ∧ (s.released e).path = s.path ∧ (s.released e).rfc.still = s.rfc.still ∧
    (s.released e).tooth = s.tooth ∧ (s.released e).scan = s.scan ∧ (s.released e).motion = s.motion ∧
    (s.released e).sup = s.sup ∧ (s.released e).rbc = s.rbc ∧ (s.released e).ent = s.ent ∧
    (s.released e).vlu = s.vlu ∧ (s.released e).mem = s.mem ∧ (s.released e).freeIndex = s.freeIndex ∧
    (s.released e).pending = s.pending := by
  unfold State.released
  try dsimp only
  (repeat' split) <;> simp

/-- Changes at most the Profile Unit, the waiting fills. -/
@[simp] theorem State.dropLast_frame (s : State) :
    s.dropLast.run = s.run ∧ s.dropLast.path = s.path ∧ s.dropLast.rfc.still = s.rfc.still ∧
    s.dropLast.tooth = s.tooth ∧ s.dropLast.scan = s.scan ∧ s.dropLast.motion = s.motion ∧ s.dropLast.sup = s.sup ∧
    s.dropLast.rbc = s.rbc ∧ s.dropLast.ent = s.ent ∧ s.dropLast.vlu = s.vlu ∧ s.dropLast.mem = s.mem ∧
    s.dropLast.freeIndex = s.freeIndex ∧ s.dropLast.pending = s.pending := by
  unfold State.dropLast
  try dsimp only
  (repeat' split) <;> simp

/-- The loop track taken alone changes. -/
@[simp] theorem State.leaveLoop_frame (s : State) (e : Entry) :
    (s.leaveLoop e).run = s.run ∧ (s.leaveLoop e).path = s.path ∧ (s.leaveLoop e).rfc = s.rfc ∧
    (s.leaveLoop e).tooth = s.tooth ∧ (s.leaveLoop e).scan = s.scan ∧ (s.leaveLoop e).motion = s.motion ∧
    (s.leaveLoop e).sup = s.sup ∧ (s.leaveLoop e).rbc = s.rbc ∧ (s.leaveLoop e).ent = s.ent ∧
    (s.leaveLoop e).vlu = s.vlu ∧ (s.leaveLoop e).mem = s.mem ∧ (s.leaveLoop e).freeIndex = s.freeIndex ∧
    (s.leaveLoop e).pending = s.pending ∧ (s.leaveLoop e).prof.window = s.prof.window ∧
    (s.leaveLoop e).prof.cache = s.prof.cache := by
  unfold State.leaveLoop
  split <;> simp

/-- Changes at most the Profile Unit, the waiting fills. -/
@[simp] theorem State.leaveLast_frame (s : State) :
    s.leaveLast.run = s.run ∧ s.leaveLast.path = s.path ∧ s.leaveLast.rfc.still = s.rfc.still ∧
    s.leaveLast.tooth = s.tooth ∧ s.leaveLast.scan = s.scan ∧ s.leaveLast.motion = s.motion ∧
    s.leaveLast.sup = s.sup ∧ s.leaveLast.rbc = s.rbc ∧ s.leaveLast.ent = s.ent ∧ s.leaveLast.vlu = s.vlu ∧
    s.leaveLast.mem = s.mem ∧ s.leaveLast.freeIndex = s.freeIndex ∧ s.leaveLast.pending = s.pending := by
  unfold State.leaveLast
  try dsimp only
  (repeat' split) <;> simp

/-- Changes at most the Profile Unit, the waiting fills. -/
@[simp] theorem State.dropFirst_frame (s : State) :
    s.dropFirst.run = s.run ∧ s.dropFirst.path = s.path ∧ s.dropFirst.rfc.still = s.rfc.still ∧
    s.dropFirst.tooth = s.tooth ∧ s.dropFirst.scan = s.scan ∧ s.dropFirst.motion = s.motion ∧
    s.dropFirst.sup = s.sup ∧ s.dropFirst.rbc = s.rbc ∧ s.dropFirst.ent = s.ent ∧ s.dropFirst.vlu = s.vlu ∧
    s.dropFirst.mem = s.mem ∧ s.dropFirst.freeIndex = s.freeIndex ∧ s.dropFirst.pending = s.pending := by
  unfold State.dropFirst
  try dsimp only
  (repeat' split) <;> simp

/-- Changes at most the Profile Unit. -/
@[simp] theorem State.relocate_frame (s : State) :
    s.relocate.run = s.run ∧ s.relocate.path = s.path ∧ s.relocate.rfc = s.rfc ∧ s.relocate.tooth = s.tooth ∧
    s.relocate.scan = s.scan ∧ s.relocate.motion = s.motion ∧ s.relocate.sup = s.sup ∧ s.relocate.rbc = s.rbc ∧
    s.relocate.ent = s.ent ∧ s.relocate.vlu = s.vlu ∧ s.relocate.mem = s.mem ∧ s.relocate.freeIndex = s.freeIndex ∧
    s.relocate.pending = s.pending := by
  simp [State.relocate]

/-- Changes at most the Profile Unit. -/
@[simp] theorem State.setEnd_frame (s : State) (k : EndKind) :
    (s.setEnd k).run = s.run ∧ (s.setEnd k).path = s.path ∧ (s.setEnd k).rfc = s.rfc ∧ (s.setEnd k).tooth = s.tooth ∧
    (s.setEnd k).scan = s.scan ∧ (s.setEnd k).motion = s.motion ∧ (s.setEnd k).sup = s.sup ∧
    (s.setEnd k).rbc = s.rbc ∧ (s.setEnd k).ent = s.ent ∧ (s.setEnd k).vlu = s.vlu ∧ (s.setEnd k).mem = s.mem ∧
    (s.setEnd k).freeIndex = s.freeIndex ∧ (s.setEnd k).pending = s.pending := by
  simp [State.setEnd]

/-- Changes at most the Profile Unit, the waiting fills, the handed groups. -/
@[simp] theorem State.extend_frame (k : Nat) (s : State) :
    (State.extend k s).run = s.run ∧ (State.extend k s).path.still = s.path.still ∧
    (State.extend k s).rfc.still = s.rfc.still ∧ (State.extend k s).tooth = s.tooth ∧
    (State.extend k s).scan = s.scan ∧ (State.extend k s).motion = s.motion ∧ (State.extend k s).sup = s.sup ∧
    (State.extend k s).rbc = s.rbc ∧ (State.extend k s).ent = s.ent ∧ (State.extend k s).vlu = s.vlu ∧
    (State.extend k s).mem = s.mem ∧ (State.extend k s).freeIndex = s.freeIndex ∧
    (State.extend k s).pending = s.pending := by
  induction k generalizing s with
  | zero => simp [State.extend]
  | succ k ih =>
    unfold State.extend
    try dsimp only
    (repeat' split) <;> simp [ih]

@[simp] theorem State.extend_grows (k : Nat) (s : State) {old : PathUnit} (h : Grows old s.path) :
    Grows old (State.extend k s).path := by
  induction k generalizing s with
  | zero => simp [State.extend, h]
  | succ k ih =>
    unfold State.extend
    try dsimp only
    (repeat' split) <;> simp (maxDischargeDepth := 40) [ih, h]

/-- Changes at most the Profile Unit, the waiting fills, the handed groups. -/
@[simp] theorem State.followFar_frame (k : Nat) (s : State) :
    (State.followFar k s).run = s.run ∧ (State.followFar k s).path.still = s.path.still ∧
    (State.followFar k s).rfc.still = s.rfc.still ∧ (State.followFar k s).tooth = s.tooth ∧
    (State.followFar k s).scan = s.scan ∧ (State.followFar k s).motion = s.motion ∧
    (State.followFar k s).sup = s.sup ∧ (State.followFar k s).rbc = s.rbc ∧ (State.followFar k s).ent = s.ent ∧
    (State.followFar k s).vlu = s.vlu ∧ (State.followFar k s).mem = s.mem ∧
    (State.followFar k s).freeIndex = s.freeIndex ∧ (State.followFar k s).pending = s.pending := by
  induction k generalizing s with
  | zero => simp [State.followFar]
  | succ k ih =>
    unfold State.followFar
    try dsimp only
    (repeat' split) <;> simp [ih]

@[simp] theorem State.followFar_grows (k : Nat) (s : State) {old : PathUnit} (h : Grows old s.path) :
    Grows old (State.followFar k s).path := by
  induction k generalizing s with
  | zero => simp [State.followFar, h]
  | succ k ih =>
    unfold State.followFar
    try dsimp only
    (repeat' split) <;> simp (maxDischargeDepth := 40) [ih, h]

/-- Changes at most the Profile Unit, the waiting fills. -/
@[simp] theorem State.leaveFar_frame (k : Nat) (s : State) :
    (State.leaveFar k s).run = s.run ∧ (State.leaveFar k s).path = s.path ∧
    (State.leaveFar k s).rfc.still = s.rfc.still ∧ (State.leaveFar k s).tooth = s.tooth ∧
    (State.leaveFar k s).scan = s.scan ∧ (State.leaveFar k s).motion = s.motion ∧ (State.leaveFar k s).sup = s.sup ∧
    (State.leaveFar k s).rbc = s.rbc ∧ (State.leaveFar k s).ent = s.ent ∧ (State.leaveFar k s).vlu = s.vlu ∧
    (State.leaveFar k s).mem = s.mem ∧ (State.leaveFar k s).freeIndex = s.freeIndex ∧
    (State.leaveFar k s).pending = s.pending := by
  induction k generalizing s with
  | zero => simp [State.leaveFar]
  | succ k ih =>
    unfold State.leaveFar
    try dsimp only
    (repeat' split) <;> simp [ih]

/-- Changes at most the Profile Unit, the waiting fills, the handed groups. -/
@[simp] theorem State.farFollows_frame (s : State) :
    s.farFollows.run = s.run ∧ s.farFollows.path.still = s.path.still ∧ s.farFollows.rfc.still = s.rfc.still ∧
    s.farFollows.tooth = s.tooth ∧ s.farFollows.scan = s.scan ∧ s.farFollows.motion = s.motion ∧
    s.farFollows.sup = s.sup ∧ s.farFollows.rbc = s.rbc ∧ s.farFollows.ent = s.ent ∧ s.farFollows.vlu = s.vlu ∧
    s.farFollows.mem = s.mem ∧ s.farFollows.freeIndex = s.freeIndex ∧ s.farFollows.pending = s.pending := by
  unfold State.farFollows
  simp

@[simp] theorem State.farFollows_grows (s : State) {old : PathUnit} (h : Grows old s.path) :
    Grows old s.farFollows.path := by
  unfold State.farFollows
  simp [h]

/-- Without an entry there is none to leave at either end. -/
theorem State.ends_kept_of_empty {s : State} (h : s.prof.window = []) : s.rearLeft = false ∧ s.farLeft = false := by
  simp [State.rearLeft, State.farLeft, h]

/-- A PRESENT end entry is left where its span is passed, whatever the others hold (R11). -/
theorem ProfileUnit.entryLeft_present {p : ProfileUnit} {w : Way} {x : Int} {e : Entry} {others : List Entry}
    (h : e.state = .present) : p.entryLeft w x e others = p.entryPassed w x e := by
  simp [ProfileUnit.entryLeft, h]

/-- Changes at most the Profile Unit, the waiting fills, the handed groups. -/
@[simp] theorem State.extendAhead_frame (s : State) :
    s.extendAhead.run = s.run ∧ s.extendAhead.path.still = s.path.still ∧ s.extendAhead.rfc.still = s.rfc.still ∧
    s.extendAhead.tooth = s.tooth ∧ s.extendAhead.scan = s.scan ∧ s.extendAhead.motion = s.motion ∧
    s.extendAhead.sup = s.sup ∧ s.extendAhead.rbc = s.rbc ∧ s.extendAhead.ent = s.ent ∧ s.extendAhead.vlu = s.vlu ∧
    s.extendAhead.mem = s.mem ∧ s.extendAhead.freeIndex = s.freeIndex ∧ s.extendAhead.pending = s.pending := by
  unfold State.extendAhead
  try dsimp only
  (repeat' split) <;> simp

@[simp] theorem State.extendAhead_grows (s : State) {old : PathUnit} (h : Grows old s.path) :
    Grows old s.extendAhead.path := by
  unfold State.extendAhead
  try dsimp only
  (repeat' split) <;> simp (maxDischargeDepth := 40) [h]

/-- Changes at most the Profile Unit, the waiting fills. -/
@[simp] theorem State.leaveRear_frame (k : Nat) (s : State) :
    (State.leaveRear k s).run = s.run ∧ (State.leaveRear k s).path = s.path ∧
    (State.leaveRear k s).rfc.still = s.rfc.still ∧ (State.leaveRear k s).tooth = s.tooth ∧
    (State.leaveRear k s).scan = s.scan ∧ (State.leaveRear k s).motion = s.motion ∧
    (State.leaveRear k s).sup = s.sup ∧ (State.leaveRear k s).rbc = s.rbc ∧ (State.leaveRear k s).ent = s.ent ∧
    (State.leaveRear k s).vlu = s.vlu ∧ (State.leaveRear k s).mem = s.mem ∧
    (State.leaveRear k s).freeIndex = s.freeIndex ∧ (State.leaveRear k s).pending = s.pending := by
  induction k generalizing s with
  | zero => simp [State.leaveRear]
  | succ k ih =>
    unfold State.leaveRear
    try dsimp only
    (repeat' split) <;> simp [ih]

/-- Changes at most the Profile Unit. -/
@[simp] theorem State.setRear_frame (s : State) (b : Bool) :
    (s.setRear b).run = s.run ∧ (s.setRear b).path = s.path ∧ (s.setRear b).rfc = s.rfc ∧
    (s.setRear b).tooth = s.tooth ∧ (s.setRear b).scan = s.scan ∧ (s.setRear b).motion = s.motion ∧
    (s.setRear b).sup = s.sup ∧ (s.setRear b).rbc = s.rbc ∧ (s.setRear b).ent = s.ent ∧ (s.setRear b).vlu = s.vlu ∧
    (s.setRear b).mem = s.mem ∧ (s.setRear b).freeIndex = s.freeIndex ∧ (s.setRear b).pending = s.pending := by
  simp [State.setRear]

/-- Changes at most the Profile Unit, the waiting fills, the handed groups. -/
@[simp] theorem State.followRear_frame (k : Nat) (s : State) :
    (State.followRear k s).run = s.run ∧ (State.followRear k s).path.still = s.path.still ∧
    (State.followRear k s).rfc.still = s.rfc.still ∧ (State.followRear k s).tooth = s.tooth ∧
    (State.followRear k s).scan = s.scan ∧ (State.followRear k s).motion = s.motion ∧
    (State.followRear k s).sup = s.sup ∧ (State.followRear k s).rbc = s.rbc ∧ (State.followRear k s).ent = s.ent ∧
    (State.followRear k s).vlu = s.vlu ∧ (State.followRear k s).mem = s.mem ∧
    (State.followRear k s).freeIndex = s.freeIndex ∧ (State.followRear k s).pending = s.pending := by
  induction k generalizing s with
  | zero => simp [State.followRear]
  | succ k ih =>
    unfold State.followRear
    try dsimp only
    (repeat' split) <;> simp [ih]

@[simp] theorem State.followRear_grows (k : Nat) (s : State) {old : PathUnit} (h : Grows old s.path) :
    Grows old (State.followRear k s).path := by
  induction k generalizing s with
  | zero => simp [State.followRear, h]
  | succ k ih =>
    unfold State.followRear
    try dsimp only
    (repeat' split) <;> simp (maxDischargeDepth := 40) [ih, h]

/-- Changes at most the Profile Unit, the waiting fills, the handed groups. -/
@[simp] theorem State.windowFollows_frame (b s : State) :
    (State.windowFollows b s).run = s.run ∧ (State.windowFollows b s).path.still = s.path.still ∧
    (State.windowFollows b s).rfc.still = s.rfc.still ∧ (State.windowFollows b s).tooth = s.tooth ∧
    (State.windowFollows b s).scan = s.scan ∧ (State.windowFollows b s).motion = s.motion ∧
    (State.windowFollows b s).sup = s.sup ∧ (State.windowFollows b s).rbc = s.rbc ∧
    (State.windowFollows b s).ent = s.ent ∧ (State.windowFollows b s).vlu = s.vlu ∧
    (State.windowFollows b s).mem = s.mem ∧ (State.windowFollows b s).freeIndex = s.freeIndex ∧
    (State.windowFollows b s).pending = s.pending := by
  unfold State.windowFollows
  try dsimp only
  (repeat' split) <;> simp

@[simp] theorem State.windowFollows_grows (b s : State) {old : PathUnit} (h : Grows old s.path) :
    Grows old (State.windowFollows b s).path := by
  unfold State.windowFollows
  try dsimp only
  (repeat' split) <;> simp (maxDischargeDepth := 40) [h]

/-- Changes at most the Profile Unit, the waiting fills. -/
@[simp] theorem State.shorten_frame (k : Nat) (s : State) :
    (State.shorten k s).run = s.run ∧ (State.shorten k s).path = s.path ∧
    (State.shorten k s).rfc.still = s.rfc.still ∧ (State.shorten k s).tooth = s.tooth ∧
    (State.shorten k s).scan = s.scan ∧ (State.shorten k s).motion = s.motion ∧ (State.shorten k s).sup = s.sup ∧
    (State.shorten k s).rbc = s.rbc ∧ (State.shorten k s).ent = s.ent ∧ (State.shorten k s).vlu = s.vlu ∧
    (State.shorten k s).mem = s.mem ∧ (State.shorten k s).freeIndex = s.freeIndex ∧
    (State.shorten k s).pending = s.pending := by
  induction k generalizing s with
  | zero => simp [State.shorten]
  | succ k ih =>
    unfold State.shorten
    try dsimp only
    (repeat' split) <;> simp [ih]

/-- Changes at most the Profile Unit, the waiting fills, the handed groups. -/
@[simp] theorem State.speedChanged_frame (s : State) :
    s.speedChanged.run = s.run ∧ s.speedChanged.path.still = s.path.still ∧ s.speedChanged.rfc.still = s.rfc.still ∧
    s.speedChanged.tooth = s.tooth ∧ s.speedChanged.scan = s.scan ∧ s.speedChanged.motion = s.motion ∧
    s.speedChanged.sup = s.sup ∧ s.speedChanged.rbc = s.rbc ∧ s.speedChanged.ent = s.ent ∧
    s.speedChanged.vlu = s.vlu ∧ s.speedChanged.mem = s.mem ∧ s.speedChanged.freeIndex = s.freeIndex ∧
    s.speedChanged.pending = s.pending := by
  unfold State.speedChanged
  try dsimp only
  (repeat' split) <;> simp

@[simp] theorem State.speedChanged_grows (s : State) {old : PathUnit} (h : Grows old s.path) :
    Grows old s.speedChanged.path := by
  unfold State.speedChanged
  try dsimp only
  (repeat' split) <;> simp (maxDischargeDepth := 40) [h]

/-- Changes at most the Profile Unit, the waiting fills. -/
@[simp] theorem State.cutAfter_frame (k : Nat) (j : Nat) (s : State) :
    (State.cutAfter k j s).run = s.run ∧ (State.cutAfter k j s).path = s.path ∧
    (State.cutAfter k j s).rfc.still = s.rfc.still ∧ (State.cutAfter k j s).tooth = s.tooth ∧
    (State.cutAfter k j s).scan = s.scan ∧ (State.cutAfter k j s).motion = s.motion ∧
    (State.cutAfter k j s).sup = s.sup ∧ (State.cutAfter k j s).rbc = s.rbc ∧ (State.cutAfter k j s).ent = s.ent ∧
    (State.cutAfter k j s).vlu = s.vlu ∧ (State.cutAfter k j s).mem = s.mem ∧
    (State.cutAfter k j s).freeIndex = s.freeIndex ∧ (State.cutAfter k j s).pending = s.pending := by
  induction k generalizing s with
  | zero => simp [State.cutAfter]
  | succ k ih =>
    unfold State.cutAfter
    try dsimp only
    (repeat' split) <;> simp [ih]

/-- Changes at most the Profile Unit, the waiting fills, the handed groups. -/
@[simp] theorem State.loopChoice_frame (s : State) (c : LoopSel) :
    (s.loopChoice c).run = s.run ∧ (s.loopChoice c).path.still = s.path.still ∧
    (s.loopChoice c).rfc.still = s.rfc.still ∧ (s.loopChoice c).tooth = s.tooth ∧ (s.loopChoice c).scan = s.scan ∧
    (s.loopChoice c).motion = s.motion ∧ (s.loopChoice c).sup = s.sup ∧ (s.loopChoice c).rbc = s.rbc ∧
    (s.loopChoice c).ent = s.ent ∧ (s.loopChoice c).vlu = s.vlu ∧ (s.loopChoice c).mem = s.mem ∧
    (s.loopChoice c).freeIndex = s.freeIndex ∧ (s.loopChoice c).pending = s.pending := by
  unfold State.loopChoice
  try dsimp only
  (repeat' split) <;> simp

@[simp] theorem State.loopChoice_grows (s : State) (c : LoopSel) {old : PathUnit} (h : Grows old s.path) :
    Grows old (s.loopChoice c).path := by
  unfold State.loopChoice
  try dsimp only
  (repeat' split) <;> simp (maxDischargeDepth := 40) [h]

/-- Releasing entries one after another. -/
theorem releasedAll_frame (xs : List Entry) (s : State) :
    (xs.foldl State.released s).run = s.run ∧ (xs.foldl State.released s).path = s.path ∧
    (xs.foldl State.released s).rfc.still = s.rfc.still ∧ (xs.foldl State.released s).tooth = s.tooth ∧
    (xs.foldl State.released s).scan = s.scan ∧ (xs.foldl State.released s).motion = s.motion ∧
    (xs.foldl State.released s).sup = s.sup ∧ (xs.foldl State.released s).rbc = s.rbc ∧
    (xs.foldl State.released s).ent = s.ent ∧ (xs.foldl State.released s).vlu = s.vlu ∧
    (xs.foldl State.released s).mem = s.mem ∧ (xs.foldl State.released s).freeIndex = s.freeIndex ∧
    (xs.foldl State.released s).pending = s.pending := by
  induction xs generalizing s with
  | nil => simp
  | cons x xs ih => simp [ih]

/-- Changes at most the Profile Unit, the waiting fills. -/
@[simp] theorem State.emptyWindow_frame (s : State) :
    s.emptyWindow.run = s.run ∧ s.emptyWindow.path = s.path ∧ s.emptyWindow.rfc.still = s.rfc.still ∧
    s.emptyWindow.tooth = s.tooth ∧ s.emptyWindow.scan = s.scan ∧ s.emptyWindow.motion = s.motion ∧
    s.emptyWindow.sup = s.sup ∧ s.emptyWindow.rbc = s.rbc ∧ s.emptyWindow.ent = s.ent ∧ s.emptyWindow.vlu = s.vlu ∧
    s.emptyWindow.mem = s.mem ∧ s.emptyWindow.freeIndex = s.freeIndex ∧ s.emptyWindow.pending = s.pending := by
  simp [State.emptyWindow, releasedAll_frame]

/-- Changes at most the Profile Unit, the waiting fills, the Motion Unit. -/
@[simp] theorem State.loseReference_frame (s : State) :
    s.loseReference.run = s.run ∧ s.loseReference.path = s.path ∧ s.loseReference.rfc.still = s.rfc.still ∧
    s.loseReference.tooth = s.tooth ∧ s.loseReference.scan = s.scan ∧ s.loseReference.sup = s.sup ∧
    s.loseReference.rbc = s.rbc ∧ s.loseReference.ent = s.ent ∧ s.loseReference.vlu = s.vlu ∧
    s.loseReference.mem = s.mem ∧ s.loseReference.freeIndex = s.freeIndex ∧ s.loseReference.pending = s.pending := by
  unfold State.loseReference
  try dsimp only
  (repeat' split) <;> simp

/-- Changes at most the Profile Unit, the waiting fills, the Motion Unit, the handed groups. -/
@[simp] theorem State.rebuildGap_frame (s : State) (r : Reason) :
    (s.rebuildGap r).run = s.run ∧ (s.rebuildGap r).path.still = s.path.still ∧
    (s.rebuildGap r).rfc.still = s.rfc.still ∧ (s.rebuildGap r).tooth = s.tooth ∧ (s.rebuildGap r).scan = s.scan ∧
    (s.rebuildGap r).sup = s.sup ∧ (s.rebuildGap r).rbc = s.rbc ∧ (s.rebuildGap r).ent = s.ent ∧
    (s.rebuildGap r).vlu = s.vlu ∧ (s.rebuildGap r).mem = s.mem ∧ (s.rebuildGap r).freeIndex = s.freeIndex ∧
    (s.rebuildGap r).pending = s.pending := by
  unfold State.rebuildGap
  try dsimp only
  (repeat' split) <;> simp

@[simp] theorem State.rebuildGap_grows (s : State) (r : Reason) {old : PathUnit} (h : Grows old s.path) :
    Grows old (s.rebuildGap r).path := by
  unfold State.rebuildGap
  try dsimp only
  (repeat' split) <;> simp (maxDischargeDepth := 40) [h]

/-- Changes at most the Profile Unit, the waiting fills, the handed groups. -/
@[simp] theorem State.rebuildList_frame (s : State) (n : Nat) :
    (s.rebuildList n).run = s.run ∧ (s.rebuildList n).path.still = s.path.still ∧
    (s.rebuildList n).rfc.still = s.rfc.still ∧ (s.rebuildList n).tooth = s.tooth ∧ (s.rebuildList n).scan = s.scan ∧
    (s.rebuildList n).motion = s.motion ∧ (s.rebuildList n).sup = s.sup ∧ (s.rebuildList n).rbc = s.rbc ∧
    (s.rebuildList n).ent = s.ent ∧ (s.rebuildList n).vlu = s.vlu ∧ (s.rebuildList n).mem = s.mem ∧
    (s.rebuildList n).freeIndex = s.freeIndex ∧ (s.rebuildList n).pending = s.pending := by
  unfold State.rebuildList
  try dsimp only
  (repeat' split) <;> simp

@[simp] theorem State.rebuildList_grows (s : State) (n : Nat) {old : PathUnit} (h : Grows old s.path) :
    Grows old (s.rebuildList n).path := by
  unfold State.rebuildList
  try dsimp only
  (repeat' split) <;> simp (maxDischargeDepth := 40) [h]

/-- Changes at most the Profile Unit, the waiting fills, the Motion Unit, the handed groups. -/
@[simp] theorem State.rebuildRun_frame (k st : Nat) (g : Option Segment) (s : State) :
    (State.rebuildRun k st g s).run = s.run ∧ (State.rebuildRun k st g s).path.still = s.path.still ∧
    (State.rebuildRun k st g s).rfc.still = s.rfc.still ∧ (State.rebuildRun k st g s).tooth = s.tooth ∧
    (State.rebuildRun k st g s).scan = s.scan ∧ (State.rebuildRun k st g s).sup = s.sup ∧
    (State.rebuildRun k st g s).rbc = s.rbc ∧ (State.rebuildRun k st g s).ent = s.ent ∧
    (State.rebuildRun k st g s).vlu = s.vlu ∧ (State.rebuildRun k st g s).mem = s.mem ∧
    (State.rebuildRun k st g s).freeIndex = s.freeIndex ∧ (State.rebuildRun k st g s).pending = s.pending := by
  induction k generalizing s st g with
  | zero => simp [State.rebuildRun]
  | succ k ih =>
    unfold State.rebuildRun
    try dsimp only
    (repeat' split) <;> simp [ih]

@[simp] theorem State.rebuildRun_grows (k st : Nat) (g : Option Segment) (s : State) {old : PathUnit} (h : Grows old s.path) :
    Grows old (State.rebuildRun k st g s).path := by
  induction k generalizing s st g with
  | zero => simp [State.rebuildRun, h]
  | succ k ih =>
    unfold State.rebuildRun
    try dsimp only
    (repeat' split) <;> simp (maxDischargeDepth := 40) [ih, h]

/-- Changes at most the Profile Unit, the waiting fills, the Motion Unit, the handed groups. -/
@[simp] theorem State.rebuildWindow_frame (s : State) :
    s.rebuildWindow.run = s.run ∧ s.rebuildWindow.path.still = s.path.still ∧
    s.rebuildWindow.rfc.still = s.rfc.still ∧ s.rebuildWindow.tooth = s.tooth ∧ s.rebuildWindow.scan = s.scan ∧
    s.rebuildWindow.sup = s.sup ∧ s.rebuildWindow.rbc = s.rbc ∧ s.rebuildWindow.ent = s.ent ∧
    s.rebuildWindow.vlu = s.vlu ∧ s.rebuildWindow.mem = s.mem ∧ s.rebuildWindow.freeIndex = s.freeIndex ∧
    s.rebuildWindow.pending = s.pending := by
  unfold State.rebuildWindow
  try dsimp only
  (repeat' split) <;> simp

@[simp] theorem State.rebuildWindow_grows (s : State) {old : PathUnit} (h : Grows old s.path) :
    Grows old s.rebuildWindow.path := by
  unfold State.rebuildWindow
  try dsimp only
  (repeat' split) <;> simp (maxDischargeDepth := 40) [h]

/-- Changes at most the Motion Unit. -/
@[simp] theorem State.syncReference_frame (b s : State) :
    (State.syncReference b s).run = s.run ∧ (State.syncReference b s).path = s.path ∧
    (State.syncReference b s).rfc = s.rfc ∧ (State.syncReference b s).prof = s.prof ∧
    (State.syncReference b s).tooth = s.tooth ∧ (State.syncReference b s).scan = s.scan ∧
    (State.syncReference b s).sup = s.sup ∧ (State.syncReference b s).rbc = s.rbc ∧
    (State.syncReference b s).ent = s.ent ∧ (State.syncReference b s).vlu = s.vlu ∧
    (State.syncReference b s).mem = s.mem ∧ (State.syncReference b s).freeIndex = s.freeIndex ∧
    (State.syncReference b s).pending = s.pending := by
  unfold State.syncReference
  try dsimp only
  (repeat' split) <;> simp

/-- Changes at most the Motion Unit, the Profile Unit, the waiting fills, the handed groups. -/
@[simp] theorem State.syncSpeed_frame (s : State) :
    s.syncSpeed.run = s.run ∧ s.syncSpeed.path.still = s.path.still ∧ s.syncSpeed.rfc.still = s.rfc.still ∧
    s.syncSpeed.tooth = s.tooth ∧ s.syncSpeed.scan = s.scan ∧ s.syncSpeed.sup = s.sup ∧ s.syncSpeed.rbc = s.rbc ∧
    s.syncSpeed.ent = s.ent ∧ s.syncSpeed.vlu = s.vlu ∧ s.syncSpeed.mem = s.mem ∧
    s.syncSpeed.freeIndex = s.freeIndex ∧ s.syncSpeed.pending = s.pending := by
  unfold State.syncSpeed
  try dsimp only
  (repeat' split) <;> simp

@[simp] theorem State.syncSpeed_grows (s : State) {old : PathUnit} (h : Grows old s.path) :
    Grows old s.syncSpeed.path := by
  unfold State.syncSpeed
  try dsimp only
  (repeat' split) <;> simp (maxDischargeDepth := 40) [h]

/-- Changes at most the Motion Unit, the Profile Unit, the waiting fills, the handed groups. -/
@[simp] theorem State.syncMotion_frame (b s : State) :
    (State.syncMotion b s).run = s.run ∧ (State.syncMotion b s).path.still = s.path.still ∧
    (State.syncMotion b s).rfc.still = s.rfc.still ∧ (State.syncMotion b s).tooth = s.tooth ∧
    (State.syncMotion b s).scan = s.scan ∧ (State.syncMotion b s).sup = s.sup ∧ (State.syncMotion b s).rbc = s.rbc ∧
    (State.syncMotion b s).ent = s.ent ∧ (State.syncMotion b s).vlu = s.vlu ∧ (State.syncMotion b s).mem = s.mem ∧
    (State.syncMotion b s).freeIndex = s.freeIndex ∧ (State.syncMotion b s).pending = s.pending := by
  unfold State.syncMotion
  try dsimp only
  (repeat' split) <;> simp

@[simp] theorem State.syncMotion_grows (b s : State) {old : PathUnit} (h : Grows old s.path) :
    Grows old (State.syncMotion b s).path := by
  unfold State.syncMotion
  try dsimp only
  (repeat' split) <;> simp (maxDischargeDepth := 40) [h]

/-- Changes at most the Motion Unit, the handed groups. -/
@[simp] theorem State.setPosition_frame (s : State) (x : Int) (st : PosState) :
    (s.setPosition x st).run = s.run ∧ (s.setPosition x st).path.still = s.path.still ∧
    (s.setPosition x st).rfc = s.rfc ∧ (s.setPosition x st).prof = s.prof ∧ (s.setPosition x st).tooth = s.tooth ∧
    (s.setPosition x st).scan = s.scan ∧ (s.setPosition x st).sup = s.sup ∧ (s.setPosition x st).rbc = s.rbc ∧
    (s.setPosition x st).ent = s.ent ∧ (s.setPosition x st).vlu = s.vlu ∧ (s.setPosition x st).mem = s.mem ∧
    (s.setPosition x st).freeIndex = s.freeIndex ∧ (s.setPosition x st).pending = s.pending := by
  unfold State.setPosition
  try dsimp only
  (repeat' split) <;> simp

@[simp] theorem State.setPosition_grows (s : State) (x : Int) (st : PosState) {old : PathUnit} (h : Grows old s.path) :
    Grows old (s.setPosition x st).path := by
  unfold State.setPosition
  try dsimp only
  (repeat' split) <;> simp (maxDischargeDepth := 40) [h]

/-- Changes at most the Motion Unit, the Profile Unit, the waiting fills, the handed groups. -/
@[simp] theorem State.positionStep_frame (s : State) (w : Way) :
    (s.positionStep w).run = s.run ∧ (s.positionStep w).path.still = s.path.still ∧
    (s.positionStep w).rfc.still = s.rfc.still ∧ (s.positionStep w).tooth = s.tooth ∧
    (s.positionStep w).scan = s.scan ∧ (s.positionStep w).sup = s.sup ∧ (s.positionStep w).rbc = s.rbc ∧
    (s.positionStep w).ent = s.ent ∧ (s.positionStep w).vlu = s.vlu ∧ (s.positionStep w).mem = s.mem ∧
    (s.positionStep w).freeIndex = s.freeIndex ∧ (s.positionStep w).pending = s.pending := by
  unfold State.positionStep
  try dsimp only
  (repeat' split) <;> simp

@[simp] theorem State.positionStep_grows (s : State) (w : Way) {old : PathUnit} (h : Grows old s.path) :
    Grows old (s.positionStep w).path := by
  unfold State.positionStep
  try dsimp only
  (repeat' split) <;> simp (maxDischargeDepth := 40) [h]

/-- Changes at most the Motion Unit, the Profile Unit, the waiting fills, the handed groups. -/
@[simp] theorem State.wheelSteps_frame (k : Nat) (s : State) :
    (State.wheelSteps k s).run = s.run ∧ (State.wheelSteps k s).path.still = s.path.still ∧
    (State.wheelSteps k s).rfc.still = s.rfc.still ∧ (State.wheelSteps k s).tooth = s.tooth ∧
    (State.wheelSteps k s).scan = s.scan ∧ (State.wheelSteps k s).sup = s.sup ∧ (State.wheelSteps k s).rbc = s.rbc ∧
    (State.wheelSteps k s).ent = s.ent ∧ (State.wheelSteps k s).vlu = s.vlu ∧ (State.wheelSteps k s).mem = s.mem ∧
    (State.wheelSteps k s).freeIndex = s.freeIndex ∧ (State.wheelSteps k s).pending = s.pending := by
  induction k generalizing s with
  | zero => simp [State.wheelSteps]
  | succ k ih =>
    unfold State.wheelSteps
    try dsimp only
    (repeat' split) <;> simp [ih]

@[simp] theorem State.wheelSteps_grows (k : Nat) (s : State) {old : PathUnit} (h : Grows old s.path) :
    Grows old (State.wheelSteps k s).path := by
  induction k generalizing s with
  | zero => simp [State.wheelSteps, h]
  | succ k ih =>
    unfold State.wheelSteps
    try dsimp only
    (repeat' split) <;> simp (maxDischargeDepth := 40) [ih, h]

/-- Changes at most the Motion Unit, the Profile Unit, the waiting fills, the handed groups. -/
@[simp] theorem State.moveBy_frame (s : State) (c : Channel) (w : Way) :
    (s.moveBy c w).run = s.run ∧ (s.moveBy c w).path.still = s.path.still ∧ (s.moveBy c w).rfc.still = s.rfc.still ∧
    (s.moveBy c w).tooth = s.tooth ∧ (s.moveBy c w).scan = s.scan ∧ (s.moveBy c w).sup = s.sup ∧
    (s.moveBy c w).rbc = s.rbc ∧ (s.moveBy c w).ent = s.ent ∧ (s.moveBy c w).vlu = s.vlu ∧
    (s.moveBy c w).mem = s.mem ∧ (s.moveBy c w).freeIndex = s.freeIndex ∧ (s.moveBy c w).pending = s.pending := by
  unfold State.moveBy
  try dsimp only
  (repeat' split) <;> simp

@[simp] theorem State.moveBy_grows (s : State) (c : Channel) (w : Way) {old : PathUnit} (h : Grows old s.path) :
    Grows old (s.moveBy c w).path := by
  unfold State.moveBy
  try dsimp only
  (repeat' split) <;> simp (maxDischargeDepth := 40) [h]

/-- Changes at most the Motion Unit, the Profile Unit, the waiting fills, the handed groups. -/
@[simp] theorem State.placeCar_frame (s : State) (x : Int) (t : Track) (st : PosState) :
    (s.placeCar x t st).run = s.run ∧ (s.placeCar x t st).path.still = s.path.still ∧
    (s.placeCar x t st).rfc.still = s.rfc.still ∧ (s.placeCar x t st).tooth = s.tooth ∧
    (s.placeCar x t st).scan = s.scan ∧ (s.placeCar x t st).sup = s.sup ∧ (s.placeCar x t st).rbc = s.rbc ∧
    (s.placeCar x t st).ent = s.ent ∧ (s.placeCar x t st).vlu = s.vlu ∧ (s.placeCar x t st).mem = s.mem ∧
    (s.placeCar x t st).freeIndex = s.freeIndex ∧ (s.placeCar x t st).pending = s.pending := by
  unfold State.placeCar
  try dsimp only
  (repeat' split) <;> simp

@[simp] theorem State.placeCar_grows (s : State) (x : Int) (t : Track) (st : PosState) {old : PathUnit} (h : Grows old s.path) :
    Grows old (s.placeCar x t st).path := by
  unfold State.placeCar
  try dsimp only
  (repeat' split) <;> simp (maxDischargeDepth := 40) [h]

/-- Changes at most the Motion Unit, the Profile Unit, the waiting fills, the handed groups. -/
@[simp] theorem State.markerFound_frame (s : State) (code : Nat) (r : Segment) (x : Nat) :
    (s.markerFound code r x).run = s.run ∧ (s.markerFound code r x).path.still = s.path.still ∧
    (s.markerFound code r x).rfc.still = s.rfc.still ∧ (s.markerFound code r x).tooth = s.tooth ∧
    (s.markerFound code r x).scan = s.scan ∧ (s.markerFound code r x).sup = s.sup ∧
    (s.markerFound code r x).rbc = s.rbc ∧ (s.markerFound code r x).ent = s.ent ∧
    (s.markerFound code r x).vlu = s.vlu ∧ (s.markerFound code r x).mem = s.mem ∧
    (s.markerFound code r x).freeIndex = s.freeIndex ∧ (s.markerFound code r x).pending = s.pending := by
  unfold State.markerFound
  try dsimp only
  (repeat' split) <;> simp

@[simp] theorem State.markerFound_grows (s : State) (code : Nat) (r : Segment) (x : Nat) {old : PathUnit} (h : Grows old s.path) :
    Grows old (s.markerFound code r x).path := by
  unfold State.markerFound
  try dsimp only
  (repeat' split) <;> simp (maxDischargeDepth := 40) [h]

/-- Changes at most the Motion Unit, the Profile Unit, the waiting fills, the handed groups. -/
@[simp] theorem State.markerKnown_frame (s : State) (code : Nat) :
    (s.markerKnown code).run = s.run ∧ (s.markerKnown code).path.still = s.path.still ∧
    (s.markerKnown code).rfc.still = s.rfc.still ∧ (s.markerKnown code).tooth = s.tooth ∧
    (s.markerKnown code).scan = s.scan ∧ (s.markerKnown code).sup = s.sup ∧ (s.markerKnown code).rbc = s.rbc ∧
    (s.markerKnown code).ent = s.ent ∧ (s.markerKnown code).vlu = s.vlu ∧ (s.markerKnown code).mem = s.mem ∧
    (s.markerKnown code).freeIndex = s.freeIndex ∧ (s.markerKnown code).pending = s.pending := by
  unfold State.markerKnown
  try dsimp only
  (repeat' split) <;> simp

@[simp] theorem State.markerKnown_grows (s : State) (code : Nat) {old : PathUnit} (h : Grows old s.path) :
    Grows old (s.markerKnown code).path := by
  unfold State.markerKnown
  try dsimp only
  (repeat' split) <;> simp (maxDischargeDepth := 40) [h]

/-- Changes at most the Motion Unit, the handed groups. -/
@[simp] theorem State.inclineReading_frame (s : State) (v : Int) (u : Bool) :
    (s.inclineReading v u).run = s.run ∧ (s.inclineReading v u).path.still = s.path.still ∧
    (s.inclineReading v u).rfc = s.rfc ∧ (s.inclineReading v u).prof = s.prof ∧
    (s.inclineReading v u).tooth = s.tooth ∧ (s.inclineReading v u).scan = s.scan ∧
    (s.inclineReading v u).sup = s.sup ∧ (s.inclineReading v u).rbc = s.rbc ∧ (s.inclineReading v u).ent = s.ent ∧
    (s.inclineReading v u).vlu = s.vlu ∧ (s.inclineReading v u).mem = s.mem ∧
    (s.inclineReading v u).freeIndex = s.freeIndex ∧ (s.inclineReading v u).pending = s.pending := by
  unfold State.inclineReading
  try dsimp only
  (repeat' split) <;> simp

@[simp] theorem State.inclineReading_grows (s : State) (v : Int) (u : Bool) {old : PathUnit} (h : Grows old s.path) :
    Grows old (s.inclineReading v u).path := by
  unfold State.inclineReading
  try dsimp only
  (repeat' split) <;> simp (maxDischargeDepth := 40) [h]

end Sys2Proof.Machine
end

