-- ==== Sys2Proof/Laws/Control.lean ====
section
/-! SUPPORT. What each operation of the Supervisor, the RBC and the Entrance Controller leaves as it was (chapters 5 to 7). -/

namespace Sys2Proof.Machine

/-- Changes at most the Supervisor, the handed groups. -/
@[simp] theorem State.raise_frame (s : State) (c : Cause) :
    (s.raise c).run = s.run ∧ (s.raise c).path.still = s.path.still ∧ (s.raise c).rfc = s.rfc ∧
    (s.raise c).prof = s.prof ∧ (s.raise c).tooth = s.tooth ∧ (s.raise c).scan = s.scan ∧
    (s.raise c).motion = s.motion ∧ (s.raise c).rbc = s.rbc ∧ (s.raise c).ent = s.ent ∧ (s.raise c).vlu = s.vlu ∧
    (s.raise c).mem = s.mem ∧ (s.raise c).freeIndex = s.freeIndex ∧ (s.raise c).pending = s.pending := by
  unfold State.raise
  try dsimp only
  (repeat' split) <;> simp

@[simp] theorem State.raise_grows (s : State) (c : Cause) {old : PathUnit} (h : Grows old s.path) :
    Grows old (s.raise c).path := by
  unfold State.raise
  try dsimp only
  (repeat' split) <;> simp (maxDischargeDepth := 40) [h]

/-- Causes raised one after another. -/
theorem raiseAll_frame (cs : List Cause) (s : State) :
    (cs.foldl State.raise s).run = s.run ∧ (cs.foldl State.raise s).path.still = s.path.still ∧
    (cs.foldl State.raise s).rfc = s.rfc ∧ (cs.foldl State.raise s).prof = s.prof ∧
    (cs.foldl State.raise s).tooth = s.tooth ∧ (cs.foldl State.raise s).scan = s.scan ∧
    (cs.foldl State.raise s).motion = s.motion ∧ (cs.foldl State.raise s).rbc = s.rbc ∧
    (cs.foldl State.raise s).ent = s.ent ∧ (cs.foldl State.raise s).vlu = s.vlu ∧
    (cs.foldl State.raise s).mem = s.mem ∧ (cs.foldl State.raise s).freeIndex = s.freeIndex ∧
    (cs.foldl State.raise s).pending = s.pending := by
  induction cs generalizing s with
  | nil => simp
  | cons c cs ih => simp [ih]

theorem raiseAll_grows (cs : List Cause) (s : State) {p : PathUnit} (h : Grows p s.path) :
    Grows p (cs.foldl State.raise s).path := by
  induction cs generalizing s with
  | nil => simpa using h
  | cons c cs ih => simp (maxDischargeDepth := 40) [ih, h]

/-- Changes at most the Supervisor, the handed groups. -/
@[simp] theorem State.decideState_frame (s : State) :
    s.decideState.run = s.run ∧ s.decideState.path.still = s.path.still ∧ s.decideState.rfc = s.rfc ∧
    s.decideState.prof = s.prof ∧ s.decideState.tooth = s.tooth ∧ s.decideState.scan = s.scan ∧
    s.decideState.motion = s.motion ∧ s.decideState.rbc = s.rbc ∧ s.decideState.ent = s.ent ∧
    s.decideState.vlu = s.vlu ∧ s.decideState.mem = s.mem ∧ s.decideState.freeIndex = s.freeIndex ∧
    s.decideState.pending = s.pending := by
  unfold State.decideState
  try dsimp only
  (repeat' split) <;> simp

@[simp] theorem State.decideState_grows (s : State) {old : PathUnit} (h : Grows old s.path) :
    Grows old s.decideState.path := by
  unfold State.decideState
  try dsimp only
  (repeat' split) <;> simp (maxDischargeDepth := 40) [h]

/-- Changes at most the Supervisor, the handed groups. -/
@[simp] theorem State.setCeiling_frame (s : State) :
    s.setCeiling.run = s.run ∧ s.setCeiling.path.still = s.path.still ∧ s.setCeiling.rfc = s.rfc ∧
    s.setCeiling.prof = s.prof ∧ s.setCeiling.tooth = s.tooth ∧ s.setCeiling.scan = s.scan ∧
    s.setCeiling.motion = s.motion ∧ s.setCeiling.rbc = s.rbc ∧ s.setCeiling.ent = s.ent ∧ s.setCeiling.vlu = s.vlu ∧
    s.setCeiling.mem = s.mem ∧ s.setCeiling.freeIndex = s.freeIndex ∧ s.setCeiling.pending = s.pending := by
  unfold State.setCeiling
  try dsimp only
  (repeat' split) <;> simp

@[simp] theorem State.setCeiling_grows (s : State) {old : PathUnit} (h : Grows old s.path) :
    Grows old s.setCeiling.path := by
  unfold State.setCeiling
  try dsimp only
  (repeat' split) <;> simp (maxDischargeDepth := 40) [h]

/-- Changes at most the Supervisor, the handed groups. -/
@[simp] theorem State.evaluateOnce_frame (s : State) (cs : List Cause) :
    (s.evaluateOnce cs).run = s.run ∧ (s.evaluateOnce cs).path.still = s.path.still ∧
    (s.evaluateOnce cs).rfc = s.rfc ∧ (s.evaluateOnce cs).prof = s.prof ∧ (s.evaluateOnce cs).tooth = s.tooth ∧
    (s.evaluateOnce cs).scan = s.scan ∧ (s.evaluateOnce cs).motion = s.motion ∧ (s.evaluateOnce cs).rbc = s.rbc ∧
    (s.evaluateOnce cs).ent = s.ent ∧ (s.evaluateOnce cs).vlu = s.vlu ∧ (s.evaluateOnce cs).mem = s.mem ∧
    (s.evaluateOnce cs).freeIndex = s.freeIndex ∧ (s.evaluateOnce cs).pending = s.pending := by
  simp [State.evaluateOnce, raiseAll_frame]

@[simp] theorem State.evaluateOnce_grows (s : State) (cs : List Cause) {old : PathUnit} (h : Grows old s.path) :
    Grows old (s.evaluateOnce cs).path := by
  simp (maxDischargeDepth := 40) [State.evaluateOnce, raiseAll_grows, h]

/-- Changes at most the RBC. -/
@[simp] theorem State.formServiceOutput_frame (s : State) :
    s.formServiceOutput.run = s.run ∧ s.formServiceOutput.path = s.path ∧ s.formServiceOutput.rfc = s.rfc ∧
    s.formServiceOutput.prof = s.prof ∧ s.formServiceOutput.tooth = s.tooth ∧ s.formServiceOutput.scan = s.scan ∧
    s.formServiceOutput.motion = s.motion ∧ s.formServiceOutput.sup = s.sup ∧ s.formServiceOutput.ent = s.ent ∧
    s.formServiceOutput.vlu = s.vlu ∧ s.formServiceOutput.mem = s.mem ∧ s.formServiceOutput.freeIndex = s.freeIndex ∧
    s.formServiceOutput.pending = s.pending := by
  unfold State.formServiceOutput
  try dsimp only
  (repeat' split) <;> simp

/-- Changes at most the RBC, the handed groups. -/
@[simp] theorem State.serviceReading_frame (s : State) (v : Int) :
    (s.serviceReading v).run = s.run ∧ (s.serviceReading v).path.still = s.path.still ∧
    (s.serviceReading v).rfc = s.rfc ∧ (s.serviceReading v).prof = s.prof ∧ (s.serviceReading v).tooth = s.tooth ∧
    (s.serviceReading v).scan = s.scan ∧ (s.serviceReading v).motion = s.motion ∧ (s.serviceReading v).sup = s.sup ∧
    (s.serviceReading v).ent = s.ent ∧ (s.serviceReading v).vlu = s.vlu ∧ (s.serviceReading v).mem = s.mem ∧
    (s.serviceReading v).freeIndex = s.freeIndex ∧ (s.serviceReading v).pending = s.pending := by
  unfold State.serviceReading
  try dsimp only
  (repeat' split) <;> simp

@[simp] theorem State.serviceReading_grows (s : State) (v : Int) {old : PathUnit} (h : Grows old s.path) :
    Grows old (s.serviceReading v).path := by
  unfold State.serviceReading
  try dsimp only
  (repeat' split) <;> simp (maxDischargeDepth := 40) [h]

/-- Changes at most the handed groups. -/
@[simp] theorem State.releaseRefused_frame (s : State) (r : Reason) (e : Option Entrance) :
    (s.releaseRefused r e).run = s.run ∧ (s.releaseRefused r e).path.still = s.path.still ∧
    (s.releaseRefused r e).rfc = s.rfc ∧ (s.releaseRefused r e).prof = s.prof ∧
    (s.releaseRefused r e).tooth = s.tooth ∧ (s.releaseRefused r e).scan = s.scan ∧
    (s.releaseRefused r e).motion = s.motion ∧ (s.releaseRefused r e).sup = s.sup ∧
    (s.releaseRefused r e).rbc = s.rbc ∧ (s.releaseRefused r e).ent = s.ent ∧ (s.releaseRefused r e).vlu = s.vlu ∧
    (s.releaseRefused r e).mem = s.mem ∧ (s.releaseRefused r e).freeIndex = s.freeIndex ∧
    (s.releaseRefused r e).pending = s.pending := by
  unfold State.releaseRefused
  try dsimp only
  (repeat' split) <;> simp

@[simp] theorem State.releaseRefused_grows (s : State) (r : Reason) (e : Option Entrance) {old : PathUnit} (h : Grows old s.path) :
    Grows old (s.releaseRefused r e).path := by
  unfold State.releaseRefused
  try dsimp only
  (repeat' split) <;> simp (maxDischargeDepth := 40) [h]

/-- Changes at most the RBC, the handed groups. -/
@[simp] theorem State.applyWord_frame (s : State) (c : ApplyCause) :
    (s.applyWord c).run = s.run ∧ (s.applyWord c).path.still = s.path.still ∧ (s.applyWord c).rfc = s.rfc ∧
    (s.applyWord c).prof = s.prof ∧ (s.applyWord c).tooth = s.tooth ∧ (s.applyWord c).scan = s.scan ∧
    (s.applyWord c).motion = s.motion ∧ (s.applyWord c).sup = s.sup ∧ (s.applyWord c).ent = s.ent ∧
    (s.applyWord c).vlu = s.vlu ∧ (s.applyWord c).mem = s.mem ∧ (s.applyWord c).freeIndex = s.freeIndex ∧
    (s.applyWord c).pending = s.pending := by
  unfold State.applyWord
  try dsimp only
  (repeat' split) <;> simp

@[simp] theorem State.applyWord_grows (s : State) (c : ApplyCause) {old : PathUnit} (h : Grows old s.path) :
    Grows old (s.applyWord c).path := by
  unfold State.applyWord
  try dsimp only
  (repeat' split) <;> simp (maxDischargeDepth := 40) [h]

/-- Changes at most the handed groups. -/
@[simp] theorem State.autoApplyNotice_frame (s : State) (c : ApplyCause) :
    (s.autoApplyNotice c).run = s.run ∧ (s.autoApplyNotice c).path.still = s.path.still ∧
    (s.autoApplyNotice c).rfc = s.rfc ∧ (s.autoApplyNotice c).prof = s.prof ∧ (s.autoApplyNotice c).tooth = s.tooth ∧
    (s.autoApplyNotice c).scan = s.scan ∧ (s.autoApplyNotice c).motion = s.motion ∧
    (s.autoApplyNotice c).sup = s.sup ∧ (s.autoApplyNotice c).rbc = s.rbc ∧ (s.autoApplyNotice c).ent = s.ent ∧
    (s.autoApplyNotice c).vlu = s.vlu ∧ (s.autoApplyNotice c).mem = s.mem ∧
    (s.autoApplyNotice c).freeIndex = s.freeIndex ∧ (s.autoApplyNotice c).pending = s.pending := by
  unfold State.autoApplyNotice
  try dsimp only
  (repeat' split) <;> simp

@[simp] theorem State.autoApplyNotice_grows (s : State) (c : ApplyCause) {old : PathUnit} (h : Grows old s.path) :
    Grows old (s.autoApplyNotice c).path := by
  unfold State.autoApplyNotice
  try dsimp only
  (repeat' split) <;> simp (maxDischargeDepth := 40) [h]

/-- Changes at most the RBC, the handed groups. -/
@[simp] theorem State.startApply_frame (s : State) (c : ApplyCause) :
    (s.startApply c).run = s.run ∧ (s.startApply c).path.still = s.path.still ∧ (s.startApply c).rfc = s.rfc ∧
    (s.startApply c).prof = s.prof ∧ (s.startApply c).tooth = s.tooth ∧ (s.startApply c).scan = s.scan ∧
    (s.startApply c).motion = s.motion ∧ (s.startApply c).sup = s.sup ∧ (s.startApply c).ent = s.ent ∧
    (s.startApply c).vlu = s.vlu ∧ (s.startApply c).mem = s.mem ∧ (s.startApply c).freeIndex = s.freeIndex ∧
    (s.startApply c).pending = s.pending := by
  unfold State.startApply
  try dsimp only
  (repeat' split) <;> simp

@[simp] theorem State.startApply_grows (s : State) (c : ApplyCause) {old : PathUnit} (h : Grows old s.path) :
    Grows old (s.startApply c).path := by
  unfold State.startApply
  try dsimp only
  (repeat' split) <;> simp (maxDischargeDepth := 40) [h]

/-- Changes at most the RBC, the handed groups. -/
@[simp] theorem State.applyIfReleased_frame (s : State) (c : ApplyCause) :
    (s.applyIfReleased c).run = s.run ∧ (s.applyIfReleased c).path.still = s.path.still ∧
    (s.applyIfReleased c).rfc = s.rfc ∧ (s.applyIfReleased c).prof = s.prof ∧ (s.applyIfReleased c).tooth = s.tooth ∧
    (s.applyIfReleased c).scan = s.scan ∧ (s.applyIfReleased c).motion = s.motion ∧
    (s.applyIfReleased c).sup = s.sup ∧ (s.applyIfReleased c).ent = s.ent ∧ (s.applyIfReleased c).vlu = s.vlu ∧
    (s.applyIfReleased c).mem = s.mem ∧ (s.applyIfReleased c).freeIndex = s.freeIndex ∧
    (s.applyIfReleased c).pending = s.pending := by
  unfold State.applyIfReleased
  try dsimp only
  (repeat' split) <;> simp

@[simp] theorem State.applyIfReleased_grows (s : State) (c : ApplyCause) {old : PathUnit} (h : Grows old s.path) :
    Grows old (s.applyIfReleased c).path := by
  unfold State.applyIfReleased
  try dsimp only
  (repeat' split) <;> simp (maxDischargeDepth := 40) [h]

/-- Changes at most the RBC. -/
@[simp] theorem State.startTest_frame (s : State) (k : Slot) :
    (s.startTest k).run = s.run ∧ (s.startTest k).path = s.path ∧ (s.startTest k).rfc = s.rfc ∧
    (s.startTest k).prof = s.prof ∧ (s.startTest k).tooth = s.tooth ∧ (s.startTest k).scan = s.scan ∧
    (s.startTest k).motion = s.motion ∧ (s.startTest k).sup = s.sup ∧ (s.startTest k).ent = s.ent ∧
    (s.startTest k).vlu = s.vlu ∧ (s.startTest k).mem = s.mem ∧ (s.startTest k).freeIndex = s.freeIndex ∧
    (s.startTest k).pending = s.pending := by
  unfold State.startTest
  try dsimp only
  (repeat' split) <;> simp

/-- Changes at most the RBC, the handed groups. -/
@[simp] theorem State.brakeTest_frame (s : State) (k : Slot) :
    (s.brakeTest k).run = s.run ∧ (s.brakeTest k).path.still = s.path.still ∧ (s.brakeTest k).rfc = s.rfc ∧
    (s.brakeTest k).prof = s.prof ∧ (s.brakeTest k).tooth = s.tooth ∧ (s.brakeTest k).scan = s.scan ∧
    (s.brakeTest k).motion = s.motion ∧ (s.brakeTest k).sup = s.sup ∧ (s.brakeTest k).ent = s.ent ∧
    (s.brakeTest k).vlu = s.vlu ∧ (s.brakeTest k).mem = s.mem ∧ (s.brakeTest k).freeIndex = s.freeIndex ∧
    (s.brakeTest k).pending = s.pending := by
  unfold State.brakeTest
  try dsimp only
  (repeat' split) <;> simp

@[simp] theorem State.brakeTest_grows (s : State) (k : Slot) {old : PathUnit} (h : Grows old s.path) :
    Grows old (s.brakeTest k).path := by
  unfold State.brakeTest
  try dsimp only
  (repeat' split) <;> simp (maxDischargeDepth := 40) [h]

/-- Changes at most the handed groups. -/
@[simp] theorem State.testNotice_frame (s : State) (c : ResultCode) (st : TestStep) (r : Nat) :
    (s.testNotice c st r).run = s.run ∧ (s.testNotice c st r).path.still = s.path.still ∧
    (s.testNotice c st r).rfc = s.rfc ∧ (s.testNotice c st r).prof = s.prof ∧ (s.testNotice c st r).tooth = s.tooth ∧
    (s.testNotice c st r).scan = s.scan ∧ (s.testNotice c st r).motion = s.motion ∧
    (s.testNotice c st r).sup = s.sup ∧ (s.testNotice c st r).rbc = s.rbc ∧ (s.testNotice c st r).ent = s.ent ∧
    (s.testNotice c st r).vlu = s.vlu ∧ (s.testNotice c st r).mem = s.mem ∧
    (s.testNotice c st r).freeIndex = s.freeIndex ∧ (s.testNotice c st r).pending = s.pending := by
  unfold State.testNotice
  try dsimp only
  (repeat' split) <;> simp

@[simp] theorem State.testNotice_grows (s : State) (c : ResultCode) (st : TestStep) (r : Nat) {old : PathUnit} (h : Grows old s.path) :
    Grows old (s.testNotice c st r).path := by
  unfold State.testNotice
  try dsimp only
  (repeat' split) <;> simp (maxDischargeDepth := 40) [h]

/-- Changes at most the RBC. -/
@[simp] theorem State.dropTest_frame (s : State) :
    s.dropTest.run = s.run ∧ s.dropTest.path = s.path ∧ s.dropTest.rfc = s.rfc ∧ s.dropTest.prof = s.prof ∧
    s.dropTest.tooth = s.tooth ∧ s.dropTest.scan = s.scan ∧ s.dropTest.motion = s.motion ∧ s.dropTest.sup = s.sup ∧
    s.dropTest.ent = s.ent ∧ s.dropTest.vlu = s.vlu ∧ s.dropTest.mem = s.mem ∧ s.dropTest.freeIndex = s.freeIndex ∧
    s.dropTest.pending = s.pending := by
  unfold State.dropTest
  try dsimp only
  (repeat' split) <;> simp

/-- Changes at most the RBC, the handed groups. -/
@[simp] theorem State.failTest_frame (s : State) (t : BrakeTest) :
    (s.failTest t).run = s.run ∧ (s.failTest t).path.still = s.path.still ∧ (s.failTest t).rfc = s.rfc ∧
    (s.failTest t).prof = s.prof ∧ (s.failTest t).tooth = s.tooth ∧ (s.failTest t).scan = s.scan ∧
    (s.failTest t).motion = s.motion ∧ (s.failTest t).sup = s.sup ∧ (s.failTest t).ent = s.ent ∧
    (s.failTest t).vlu = s.vlu ∧ (s.failTest t).mem = s.mem ∧ (s.failTest t).freeIndex = s.freeIndex ∧
    (s.failTest t).pending = s.pending := by
  unfold State.failTest
  try dsimp only
  (repeat' split) <;> simp

@[simp] theorem State.failTest_grows (s : State) (t : BrakeTest) {old : PathUnit} (h : Grows old s.path) :
    Grows old (s.failTest t).path := by
  unfold State.failTest
  try dsimp only
  (repeat' split) <;> simp (maxDischargeDepth := 40) [h]

/-- Changes at most the RBC, the handed groups. -/
@[simp] theorem State.abortTest_frame (s : State) (r : Reason) :
    (s.abortTest r).run = s.run ∧ (s.abortTest r).path.still = s.path.still ∧ (s.abortTest r).rfc = s.rfc ∧
    (s.abortTest r).prof = s.prof ∧ (s.abortTest r).tooth = s.tooth ∧ (s.abortTest r).scan = s.scan ∧
    (s.abortTest r).motion = s.motion ∧ (s.abortTest r).sup = s.sup ∧ (s.abortTest r).ent = s.ent ∧
    (s.abortTest r).vlu = s.vlu ∧ (s.abortTest r).mem = s.mem ∧ (s.abortTest r).freeIndex = s.freeIndex ∧
    (s.abortTest r).pending = s.pending := by
  unfold State.abortTest
  try dsimp only
  (repeat' split) <;> simp

@[simp] theorem State.abortTest_grows (s : State) (r : Reason) {old : PathUnit} (h : Grows old s.path) :
    Grows old (s.abortTest r).path := by
  unfold State.abortTest
  try dsimp only
  (repeat' split) <;> simp (maxDischargeDepth := 40) [h]

/-- Changes at most the RBC, the handed groups. -/
@[simp] theorem State.passStep_frame (s : State) (t : BrakeTest) :
    (s.passStep t).run = s.run ∧ (s.passStep t).path.still = s.path.still ∧ (s.passStep t).rfc = s.rfc ∧
    (s.passStep t).prof = s.prof ∧ (s.passStep t).tooth = s.tooth ∧ (s.passStep t).scan = s.scan ∧
    (s.passStep t).motion = s.motion ∧ (s.passStep t).sup = s.sup ∧ (s.passStep t).ent = s.ent ∧
    (s.passStep t).vlu = s.vlu ∧ (s.passStep t).mem = s.mem ∧ (s.passStep t).freeIndex = s.freeIndex ∧
    (s.passStep t).pending = s.pending := by
  unfold State.passStep
  try dsimp only
  (repeat' split) <;> simp

@[simp] theorem State.passStep_grows (s : State) (t : BrakeTest) {old : PathUnit} (h : Grows old s.path) :
    Grows old (s.passStep t).path := by
  unfold State.passStep
  try dsimp only
  (repeat' split) <;> simp (maxDischargeDepth := 40) [h]

/-- Changes at most the RBC, the handed groups. -/
@[simp] theorem State.testReading_frame (s : State) (p : Pinion) (v : Int) :
    (s.testReading p v).run = s.run ∧ (s.testReading p v).path.still = s.path.still ∧
    (s.testReading p v).rfc = s.rfc ∧ (s.testReading p v).prof = s.prof ∧ (s.testReading p v).tooth = s.tooth ∧
    (s.testReading p v).scan = s.scan ∧ (s.testReading p v).motion = s.motion ∧ (s.testReading p v).sup = s.sup ∧
    (s.testReading p v).ent = s.ent ∧ (s.testReading p v).vlu = s.vlu ∧ (s.testReading p v).mem = s.mem ∧
    (s.testReading p v).freeIndex = s.freeIndex ∧ (s.testReading p v).pending = s.pending := by
  unfold State.testReading
  try dsimp only
  (repeat' split) <;> simp

@[simp] theorem State.testReading_grows (s : State) (p : Pinion) (v : Int) {old : PathUnit} (h : Grows old s.path) :
    Grows old (s.testReading p v).path := by
  unfold State.testReading
  try dsimp only
  (repeat' split) <;> simp (maxDischargeDepth := 40) [h]

/-- Changes at most the RBC, the handed groups. -/
@[simp] theorem State.pressureReading_frame (s : State) (p : Pinion) (v : Int) :
    (s.pressureReading p v).run = s.run ∧ (s.pressureReading p v).path.still = s.path.still ∧
    (s.pressureReading p v).rfc = s.rfc ∧ (s.pressureReading p v).prof = s.prof ∧
    (s.pressureReading p v).tooth = s.tooth ∧ (s.pressureReading p v).scan = s.scan ∧
    (s.pressureReading p v).motion = s.motion ∧ (s.pressureReading p v).sup = s.sup ∧
    (s.pressureReading p v).ent = s.ent ∧ (s.pressureReading p v).vlu = s.vlu ∧ (s.pressureReading p v).mem = s.mem ∧
    (s.pressureReading p v).freeIndex = s.freeIndex ∧ (s.pressureReading p v).pending = s.pending := by
  unfold State.pressureReading
  try dsimp only
  (repeat' split) <;> simp

@[simp] theorem State.pressureReading_grows (s : State) (p : Pinion) (v : Int) {old : PathUnit} (h : Grows old s.path) :
    Grows old (s.pressureReading p v).path := by
  unfold State.pressureReading
  try dsimp only
  (repeat' split) <;> simp (maxDischargeDepth := 40) [h]

/-- Changes at most the RBC, the handed groups. -/
@[simp] theorem State.applyOrder_frame (s : State) :
    s.applyOrder.run = s.run ∧ s.applyOrder.path.still = s.path.still ∧ s.applyOrder.rfc = s.rfc ∧
    s.applyOrder.prof = s.prof ∧ s.applyOrder.tooth = s.tooth ∧ s.applyOrder.scan = s.scan ∧
    s.applyOrder.motion = s.motion ∧ s.applyOrder.sup = s.sup ∧ s.applyOrder.ent = s.ent ∧ s.applyOrder.vlu = s.vlu ∧
    s.applyOrder.mem = s.mem ∧ s.applyOrder.freeIndex = s.freeIndex ∧ s.applyOrder.pending = s.pending := by
  unfold State.applyOrder
  try dsimp only
  (repeat' split) <;> simp

@[simp] theorem State.applyOrder_grows (s : State) {old : PathUnit} (h : Grows old s.path) :
    Grows old s.applyOrder.path := by
  unfold State.applyOrder
  try dsimp only
  (repeat' split) <;> simp (maxDischargeDepth := 40) [h]

/-- Changes at most the RBC, the handed groups. -/
@[simp] theorem State.brakeSeesEntrances_frame (s : State) :
    s.brakeSeesEntrances.run = s.run ∧ s.brakeSeesEntrances.path.still = s.path.still ∧
    s.brakeSeesEntrances.rfc = s.rfc ∧ s.brakeSeesEntrances.prof = s.prof ∧ s.brakeSeesEntrances.tooth = s.tooth ∧
    s.brakeSeesEntrances.scan = s.scan ∧ s.brakeSeesEntrances.motion = s.motion ∧ s.brakeSeesEntrances.sup = s.sup ∧
    s.brakeSeesEntrances.ent = s.ent ∧ s.brakeSeesEntrances.vlu = s.vlu ∧ s.brakeSeesEntrances.mem = s.mem ∧
    s.brakeSeesEntrances.freeIndex = s.freeIndex ∧ s.brakeSeesEntrances.pending = s.pending := by
  unfold State.brakeSeesEntrances
  try dsimp only
  (repeat' split) <;> simp

@[simp] theorem State.brakeSeesEntrances_grows (s : State) {old : PathUnit} (h : Grows old s.path) :
    Grows old s.brakeSeesEntrances.path := by
  unfold State.brakeSeesEntrances
  try dsimp only
  (repeat' split) <;> simp (maxDischargeDepth := 40) [h]

/-- Changes at most the RBC, the handed groups. -/
@[simp] theorem State.enterApplyFault_frame (s : State) :
    s.enterApplyFault.run = s.run ∧ s.enterApplyFault.path.still = s.path.still ∧ s.enterApplyFault.rfc = s.rfc ∧
    s.enterApplyFault.prof = s.prof ∧ s.enterApplyFault.tooth = s.tooth ∧ s.enterApplyFault.scan = s.scan ∧
    s.enterApplyFault.motion = s.motion ∧ s.enterApplyFault.sup = s.sup ∧ s.enterApplyFault.ent = s.ent ∧
    s.enterApplyFault.vlu = s.vlu ∧ s.enterApplyFault.mem = s.mem ∧ s.enterApplyFault.freeIndex = s.freeIndex ∧
    s.enterApplyFault.pending = s.pending := by
  unfold State.enterApplyFault
  try dsimp only
  (repeat' split) <;> simp

@[simp] theorem State.enterApplyFault_grows (s : State) {old : PathUnit} (h : Grows old s.path) :
    Grows old s.enterApplyFault.path := by
  unfold State.enterApplyFault
  try dsimp only
  (repeat' split) <;> simp (maxDischargeDepth := 40) [h]

/-- Changes at most the entrances. -/
@[simp] theorem State.setEntrance_frame (s : State) (e : Entrance) (r : EntranceRec) :
    (s.setEntrance e r).run = s.run ∧ (s.setEntrance e r).path = s.path ∧ (s.setEntrance e r).rfc = s.rfc ∧
    (s.setEntrance e r).prof = s.prof ∧ (s.setEntrance e r).tooth = s.tooth ∧ (s.setEntrance e r).scan = s.scan ∧
    (s.setEntrance e r).motion = s.motion ∧ (s.setEntrance e r).sup = s.sup ∧ (s.setEntrance e r).rbc = s.rbc ∧
    (s.setEntrance e r).vlu = s.vlu ∧ (s.setEntrance e r).mem = s.mem ∧ (s.setEntrance e r).freeIndex = s.freeIndex ∧
    (s.setEntrance e r).pending = s.pending := by
  unfold State.setEntrance
  try dsimp only
  (repeat' split) <;> simp

/-- Changes at most the entrances. -/
@[simp] theorem State.startHeld_frame (g : Side → Bool) (s : State) (e : Entrance) :
    (State.startHeld g s e).run = s.run ∧ (State.startHeld g s e).path = s.path ∧
    (State.startHeld g s e).rfc = s.rfc ∧ (State.startHeld g s e).prof = s.prof ∧
    (State.startHeld g s e).tooth = s.tooth ∧ (State.startHeld g s e).scan = s.scan ∧
    (State.startHeld g s e).motion = s.motion ∧ (State.startHeld g s e).sup = s.sup ∧
    (State.startHeld g s e).rbc = s.rbc ∧ (State.startHeld g s e).vlu = s.vlu ∧ (State.startHeld g s e).mem = s.mem ∧
    (State.startHeld g s e).freeIndex = s.freeIndex ∧ (State.startHeld g s e).pending = s.pending := by
  unfold State.startHeld
  try dsimp only
  (repeat' split) <;> simp

/-- Changes at most the entrances. -/
@[simp] theorem State.judgeRelease_frame (s : State) :
    s.judgeRelease.run = s.run ∧ s.judgeRelease.path = s.path ∧ s.judgeRelease.rfc = s.rfc ∧
    s.judgeRelease.prof = s.prof ∧ s.judgeRelease.tooth = s.tooth ∧ s.judgeRelease.scan = s.scan ∧
    s.judgeRelease.motion = s.motion ∧ s.judgeRelease.sup = s.sup ∧ s.judgeRelease.rbc = s.rbc ∧
    s.judgeRelease.vlu = s.vlu ∧ s.judgeRelease.mem = s.mem ∧ s.judgeRelease.freeIndex = s.freeIndex ∧
    s.judgeRelease.pending = s.pending := by
  unfold State.judgeRelease
  try dsimp only
  (repeat' split) <;> simp

/-- Changes at most the entrances, the handed groups. -/
@[simp] theorem State.cancelHeld_frame (s : State) (e : Entrance) :
    (s.cancelHeld e).run = s.run ∧ (s.cancelHeld e).path.still = s.path.still ∧ (s.cancelHeld e).rfc = s.rfc ∧
    (s.cancelHeld e).prof = s.prof ∧ (s.cancelHeld e).tooth = s.tooth ∧ (s.cancelHeld e).scan = s.scan ∧
    (s.cancelHeld e).motion = s.motion ∧ (s.cancelHeld e).sup = s.sup ∧ (s.cancelHeld e).rbc = s.rbc ∧
    (s.cancelHeld e).vlu = s.vlu ∧ (s.cancelHeld e).mem = s.mem ∧ (s.cancelHeld e).freeIndex = s.freeIndex ∧
    (s.cancelHeld e).pending = s.pending := by
  unfold State.cancelHeld
  try dsimp only
  (repeat' split) <;> simp

@[simp] theorem State.cancelHeld_grows (s : State) (e : Entrance) {old : PathUnit} (h : Grows old s.path) :
    Grows old (s.cancelHeld e).path := by
  unfold State.cancelHeld
  try dsimp only
  (repeat' split) <;> simp (maxDischargeDepth := 40) [h]

/-- Changes at most the handed groups. -/
@[simp] theorem State.requestRefused_frame (s : State) (e : Entrance) (q : Request) (r : Reason) :
    (s.requestRefused e q r).run = s.run ∧ (s.requestRefused e q r).path.still = s.path.still ∧
    (s.requestRefused e q r).rfc = s.rfc ∧ (s.requestRefused e q r).prof = s.prof ∧
    (s.requestRefused e q r).tooth = s.tooth ∧ (s.requestRefused e q r).scan = s.scan ∧
    (s.requestRefused e q r).motion = s.motion ∧ (s.requestRefused e q r).sup = s.sup ∧
    (s.requestRefused e q r).rbc = s.rbc ∧ (s.requestRefused e q r).ent = s.ent ∧
    (s.requestRefused e q r).vlu = s.vlu ∧ (s.requestRefused e q r).mem = s.mem ∧
    (s.requestRefused e q r).freeIndex = s.freeIndex ∧ (s.requestRefused e q r).pending = s.pending := by
  unfold State.requestRefused
  try dsimp only
  (repeat' split) <;> simp

@[simp] theorem State.requestRefused_grows (s : State) (e : Entrance) (q : Request) (r : Reason) {old : PathUnit} (h : Grows old s.path) :
    Grows old (s.requestRefused e q r).path := by
  unfold State.requestRefused
  try dsimp only
  (repeat' split) <;> simp (maxDischargeDepth := 40) [h]

/-- Changes at most the entrances, the handed groups. -/
@[simp] theorem State.decideRequest_frame (s : State) (e : Entrance) (q : Request) :
    (s.decideRequest e q).2.run = s.run ∧ (s.decideRequest e q).2.path.still = s.path.still ∧
    (s.decideRequest e q).2.rfc = s.rfc ∧ (s.decideRequest e q).2.prof = s.prof ∧
    (s.decideRequest e q).2.tooth = s.tooth ∧ (s.decideRequest e q).2.scan = s.scan ∧
    (s.decideRequest e q).2.motion = s.motion ∧ (s.decideRequest e q).2.sup = s.sup ∧
    (s.decideRequest e q).2.rbc = s.rbc ∧ (s.decideRequest e q).2.vlu = s.vlu ∧ (s.decideRequest e q).2.mem = s.mem ∧
    (s.decideRequest e q).2.freeIndex = s.freeIndex ∧ (s.decideRequest e q).2.pending = s.pending := by
  unfold State.decideRequest
  try dsimp only
  (repeat' split) <;> simp

@[simp] theorem State.decideRequest_grows (s : State) (e : Entrance) (q : Request) {old : PathUnit} (h : Grows old s.path) :
    Grows old (s.decideRequest e q).2.path := by
  unfold State.decideRequest
  try dsimp only
  (repeat' split) <;> simp (maxDischargeDepth := 40) [h]

/-- Changes at most the entrances, the handed groups. -/
@[simp] theorem State.obstructed_frame (s : State) (e : Entrance) :
    (s.obstructed e).run = s.run ∧ (s.obstructed e).path.still = s.path.still ∧ (s.obstructed e).rfc = s.rfc ∧
    (s.obstructed e).prof = s.prof ∧ (s.obstructed e).tooth = s.tooth ∧ (s.obstructed e).scan = s.scan ∧
    (s.obstructed e).motion = s.motion ∧ (s.obstructed e).sup = s.sup ∧ (s.obstructed e).rbc = s.rbc ∧
    (s.obstructed e).vlu = s.vlu ∧ (s.obstructed e).mem = s.mem ∧ (s.obstructed e).freeIndex = s.freeIndex ∧
    (s.obstructed e).pending = s.pending := by
  unfold State.obstructed
  try dsimp only
  (repeat' split) <;> simp

@[simp] theorem State.obstructed_grows (s : State) (e : Entrance) {old : PathUnit} (h : Grows old s.path) :
    Grows old (s.obstructed e).path := by
  unfold State.obstructed
  try dsimp only
  (repeat' split) <;> simp (maxDischargeDepth := 40) [h]

/-- Changes at most the entrances, the handed groups. -/
@[simp] theorem State.motionTimeout_frame (s : State) (e : Entrance) :
    (s.motionTimeout e).run = s.run ∧ (s.motionTimeout e).path.still = s.path.still ∧
    (s.motionTimeout e).rfc = s.rfc ∧ (s.motionTimeout e).prof = s.prof ∧ (s.motionTimeout e).tooth = s.tooth ∧
    (s.motionTimeout e).scan = s.scan ∧ (s.motionTimeout e).motion = s.motion ∧ (s.motionTimeout e).sup = s.sup ∧
    (s.motionTimeout e).rbc = s.rbc ∧ (s.motionTimeout e).vlu = s.vlu ∧ (s.motionTimeout e).mem = s.mem ∧
    (s.motionTimeout e).freeIndex = s.freeIndex ∧ (s.motionTimeout e).pending = s.pending := by
  unfold State.motionTimeout
  try dsimp only
  (repeat' split) <;> simp

@[simp] theorem State.motionTimeout_grows (s : State) (e : Entrance) {old : PathUnit} (h : Grows old s.path) :
    Grows old (s.motionTimeout e).path := by
  unfold State.motionTimeout
  try dsimp only
  (repeat' split) <;> simp (maxDischargeDepth := 40) [h]

/-- Changes at most the entrances, the handed groups. -/
@[simp] theorem State.settled_frame (s : State) (e : Entrance) :
    (s.settled e).run = s.run ∧ (s.settled e).path.still = s.path.still ∧ (s.settled e).rfc = s.rfc ∧
    (s.settled e).prof = s.prof ∧ (s.settled e).tooth = s.tooth ∧ (s.settled e).scan = s.scan ∧
    (s.settled e).motion = s.motion ∧ (s.settled e).sup = s.sup ∧ (s.settled e).rbc = s.rbc ∧
    (s.settled e).vlu = s.vlu ∧ (s.settled e).mem = s.mem ∧ (s.settled e).freeIndex = s.freeIndex ∧
    (s.settled e).pending = s.pending := by
  unfold State.settled
  try dsimp only
  (repeat' split) <;> simp

@[simp] theorem State.settled_grows (s : State) (e : Entrance) {old : PathUnit} (h : Grows old s.path) :
    Grows old (s.settled e).path := by
  unfold State.settled
  try dsimp only
  (repeat' split) <;> simp (maxDischargeDepth := 40) [h]

/-- Changes at most the entrances, the handed groups. -/
@[simp] theorem State.lockLost_frame (s : State) (e : Entrance) :
    (s.lockLost e).run = s.run ∧ (s.lockLost e).path.still = s.path.still ∧ (s.lockLost e).rfc = s.rfc ∧
    (s.lockLost e).prof = s.prof ∧ (s.lockLost e).tooth = s.tooth ∧ (s.lockLost e).scan = s.scan ∧
    (s.lockLost e).motion = s.motion ∧ (s.lockLost e).sup = s.sup ∧ (s.lockLost e).rbc = s.rbc ∧
    (s.lockLost e).vlu = s.vlu ∧ (s.lockLost e).mem = s.mem ∧ (s.lockLost e).freeIndex = s.freeIndex ∧
    (s.lockLost e).pending = s.pending := by
  unfold State.lockLost
  try dsimp only
  (repeat' split) <;> simp

@[simp] theorem State.lockLost_grows (s : State) (e : Entrance) {old : PathUnit} (h : Grows old s.path) :
    Grows old (s.lockLost e).path := by
  unfold State.lockLost
  try dsimp only
  (repeat' split) <;> simp (maxDischargeDepth := 40) [h]

/-- Changes at most the handed groups. -/
@[simp] theorem State.ajarNotice_frame (s : State) (e : Entrance) :
    (s.ajarNotice e).run = s.run ∧ (s.ajarNotice e).path.still = s.path.still ∧ (s.ajarNotice e).rfc = s.rfc ∧
    (s.ajarNotice e).prof = s.prof ∧ (s.ajarNotice e).tooth = s.tooth ∧ (s.ajarNotice e).scan = s.scan ∧
    (s.ajarNotice e).motion = s.motion ∧ (s.ajarNotice e).sup = s.sup ∧ (s.ajarNotice e).rbc = s.rbc ∧
    (s.ajarNotice e).ent = s.ent ∧ (s.ajarNotice e).vlu = s.vlu ∧ (s.ajarNotice e).mem = s.mem ∧
    (s.ajarNotice e).freeIndex = s.freeIndex ∧ (s.ajarNotice e).pending = s.pending := by
  unfold State.ajarNotice
  try dsimp only
  (repeat' split) <;> simp

@[simp] theorem State.ajarNotice_grows (s : State) (e : Entrance) {old : PathUnit} (h : Grows old s.path) :
    Grows old (s.ajarNotice e).path := by
  unfold State.ajarNotice
  try dsimp only
  (repeat' split) <;> simp (maxDischargeDepth := 40) [h]

/-- Changes at most the handed groups. -/
@[simp] theorem State.entrancesToRun_frame (s : State) :
    s.entrancesToRun.run = s.run ∧ s.entrancesToRun.path.still = s.path.still ∧ s.entrancesToRun.rfc = s.rfc ∧
    s.entrancesToRun.prof = s.prof ∧ s.entrancesToRun.tooth = s.tooth ∧ s.entrancesToRun.scan = s.scan ∧
    s.entrancesToRun.motion = s.motion ∧ s.entrancesToRun.sup = s.sup ∧ s.entrancesToRun.rbc = s.rbc ∧
    s.entrancesToRun.ent = s.ent ∧ s.entrancesToRun.vlu = s.vlu ∧ s.entrancesToRun.mem = s.mem ∧
    s.entrancesToRun.freeIndex = s.freeIndex ∧ s.entrancesToRun.pending = s.pending := by
  unfold State.entrancesToRun
  try dsimp only
  (repeat' split) <;> simp

@[simp] theorem State.entrancesToRun_grows (s : State) {old : PathUnit} (h : Grows old s.path) :
    Grows old s.entrancesToRun.path := by
  unfold State.entrancesToRun
  try dsimp only
  (repeat' split) <;> simp (maxDischargeDepth := 40) [h]

end Sys2Proof.Machine
end

