-- ==== Sys2Proof/Laws/Profile.lean ====
section
/-! SUPPORT. What each operation of the Profile Unit and the RFC, and the end of an event, leave as they were (chapters 1 and 2, R86). -/

namespace Sys2Proof.Machine

/-- Changes at most the Profile Unit, the Motion Unit, the handed groups. -/
@[simp] theorem State.walkFail_frame (s : State) (p : Nat) (t : Track) (r : Reason) :
    (s.walkFail p t r).run = s.run ∧ (s.walkFail p t r).path.still = s.path.still ∧ (s.walkFail p t r).rfc = s.rfc ∧
    (s.walkFail p t r).tooth = s.tooth ∧ (s.walkFail p t r).scan = s.scan ∧ (s.walkFail p t r).sup = s.sup ∧
    (s.walkFail p t r).rbc = s.rbc ∧ (s.walkFail p t r).ent = s.ent ∧ (s.walkFail p t r).vlu = s.vlu ∧
    (s.walkFail p t r).mem = s.mem ∧ (s.walkFail p t r).freeIndex = s.freeIndex ∧
    (s.walkFail p t r).pending = s.pending := by
  unfold State.walkFail
  try dsimp only
  (repeat' split) <;> simp

@[simp] theorem State.walkFail_grows (s : State) (p : Nat) (t : Track) (r : Reason) {old : PathUnit} (h : Grows old s.path) :
    Grows old (s.walkFail p t r).path := by
  unfold State.walkFail
  try dsimp only
  (repeat' split) <;> simp (maxDischargeDepth := 40) [h]

/-- Changes at most the Motion Unit, the Profile Unit, the waiting fills, the handed groups. -/
@[simp] theorem State.walkDone_frame (s : State) (p : Nat) (t : Track) (n : Nat) (r : Segment) :
    (s.walkDone p t n r).run = s.run ∧ (s.walkDone p t n r).path.still = s.path.still ∧
    (s.walkDone p t n r).rfc.still = s.rfc.still ∧ (s.walkDone p t n r).tooth = s.tooth ∧
    (s.walkDone p t n r).scan = s.scan ∧ (s.walkDone p t n r).sup = s.sup ∧ (s.walkDone p t n r).rbc = s.rbc ∧
    (s.walkDone p t n r).ent = s.ent ∧ (s.walkDone p t n r).vlu = s.vlu ∧ (s.walkDone p t n r).mem = s.mem ∧
    (s.walkDone p t n r).freeIndex = s.freeIndex ∧ (s.walkDone p t n r).pending = s.pending := by
  unfold State.walkDone
  try dsimp only
  (repeat' split) <;> simp

@[simp] theorem State.walkDone_grows (s : State) (p : Nat) (t : Track) (n : Nat) (r : Segment) {old : PathUnit} (h : Grows old s.path) :
    Grows old (s.walkDone p t n r).path := by
  unfold State.walkDone
  try dsimp only
  (repeat' split) <;> simp (maxDischargeDepth := 40) [h]

/-- Changes at most the Motion Unit, the Profile Unit, the waiting fills, the handed groups. -/
@[simp] theorem State.walkRun_frame (k : Nat) (p : Nat) (t : Track) (c st : Nat) (g : Option Segment) (s : State) :
    (State.walkRun k p t c st g s).run = s.run ∧ (State.walkRun k p t c st g s).path.still = s.path.still ∧
    (State.walkRun k p t c st g s).rfc.still = s.rfc.still ∧ (State.walkRun k p t c st g s).tooth = s.tooth ∧
    (State.walkRun k p t c st g s).scan = s.scan ∧ (State.walkRun k p t c st g s).sup = s.sup ∧
    (State.walkRun k p t c st g s).rbc = s.rbc ∧ (State.walkRun k p t c st g s).ent = s.ent ∧
    (State.walkRun k p t c st g s).vlu = s.vlu ∧ (State.walkRun k p t c st g s).mem = s.mem ∧
    (State.walkRun k p t c st g s).freeIndex = s.freeIndex ∧ (State.walkRun k p t c st g s).pending = s.pending := by
  induction k generalizing s c st g with
  | zero => simp [State.walkRun]
  | succ k ih =>
    unfold State.walkRun
    try dsimp only
    (repeat' split) <;> simp [ih]

@[simp] theorem State.walkRun_grows (k : Nat) (p : Nat) (t : Track) (c st : Nat) (g : Option Segment) (s : State) {old : PathUnit} (h : Grows old s.path) :
    Grows old (State.walkRun k p t c st g s).path := by
  induction k generalizing s c st g with
  | zero => simp [State.walkRun, h]
  | succ k ih =>
    unfold State.walkRun
    try dsimp only
    (repeat' split) <;> simp (maxDischargeDepth := 40) [ih, h]

/-- Changes at most the Motion Unit, the Profile Unit, the waiting fills, the handed groups. -/
@[simp] theorem State.startWalk_frame (s : State) (p : Nat) (t : Track) :
    (s.startWalk p t).run = s.run ∧ (s.startWalk p t).path.still = s.path.still ∧
    (s.startWalk p t).rfc.still = s.rfc.still ∧ (s.startWalk p t).tooth = s.tooth ∧ (s.startWalk p t).scan = s.scan ∧
    (s.startWalk p t).sup = s.sup ∧ (s.startWalk p t).rbc = s.rbc ∧ (s.startWalk p t).ent = s.ent ∧
    (s.startWalk p t).vlu = s.vlu ∧ (s.startWalk p t).mem = s.mem ∧ (s.startWalk p t).freeIndex = s.freeIndex ∧
    (s.startWalk p t).pending = s.pending := by
  unfold State.startWalk
  try dsimp only
  (repeat' split) <;> simp

@[simp] theorem State.startWalk_grows (s : State) (p : Nat) (t : Track) {old : PathUnit} (h : Grows old s.path) :
    Grows old (s.startWalk p t).path := by
  unfold State.startWalk
  try dsimp only
  (repeat' split) <;> simp (maxDischargeDepth := 40) [h]

/-- Changes at most the Profile Unit, the Motion Unit, the handed groups. -/
@[simp] theorem State.searchFail_frame (s : State) (c : Nat) :
    (s.searchFail c).run = s.run ∧ (s.searchFail c).path.still = s.path.still ∧ (s.searchFail c).rfc = s.rfc ∧
    (s.searchFail c).tooth = s.tooth ∧ (s.searchFail c).scan = s.scan ∧ (s.searchFail c).sup = s.sup ∧
    (s.searchFail c).rbc = s.rbc ∧ (s.searchFail c).ent = s.ent ∧ (s.searchFail c).vlu = s.vlu ∧
    (s.searchFail c).mem = s.mem ∧ (s.searchFail c).freeIndex = s.freeIndex ∧ (s.searchFail c).pending = s.pending := by
  unfold State.searchFail
  try dsimp only
  (repeat' split) <;> simp

@[simp] theorem State.searchFail_grows (s : State) (c : Nat) {old : PathUnit} (h : Grows old s.path) :
    Grows old (s.searchFail c).path := by
  unfold State.searchFail
  try dsimp only
  (repeat' split) <;> simp (maxDischargeDepth := 40) [h]

/-- Changes at most the Motion Unit, the Profile Unit, the waiting fills, the handed groups. -/
@[simp] theorem State.searchDone_frame (s : State) (n : Nat) (r : Segment) (x : Nat) :
    (s.searchDone n r x).run = s.run ∧ (s.searchDone n r x).path.still = s.path.still ∧
    (s.searchDone n r x).rfc.still = s.rfc.still ∧ (s.searchDone n r x).tooth = s.tooth ∧
    (s.searchDone n r x).scan = s.scan ∧ (s.searchDone n r x).sup = s.sup ∧ (s.searchDone n r x).rbc = s.rbc ∧
    (s.searchDone n r x).ent = s.ent ∧ (s.searchDone n r x).vlu = s.vlu ∧ (s.searchDone n r x).mem = s.mem ∧
    (s.searchDone n r x).freeIndex = s.freeIndex ∧ (s.searchDone n r x).pending = s.pending := by
  unfold State.searchDone
  try dsimp only
  (repeat' split) <;> simp

@[simp] theorem State.searchDone_grows (s : State) (n : Nat) (r : Segment) (x : Nat) {old : PathUnit} (h : Grows old s.path) :
    Grows old (s.searchDone n r x).path := by
  unfold State.searchDone
  try dsimp only
  (repeat' split) <;> simp (maxDischargeDepth := 40) [h]

/-- Changes at most the Motion Unit, the Profile Unit, the waiting fills, the handed groups. -/
@[simp] theorem State.searchRun_frame (k : Nat) (c n : Nat) (g : Option Segment) (s : State) :
    (State.searchRun k c n g s).run = s.run ∧ (State.searchRun k c n g s).path.still = s.path.still ∧
    (State.searchRun k c n g s).rfc.still = s.rfc.still ∧ (State.searchRun k c n g s).tooth = s.tooth ∧
    (State.searchRun k c n g s).scan = s.scan ∧ (State.searchRun k c n g s).sup = s.sup ∧
    (State.searchRun k c n g s).rbc = s.rbc ∧ (State.searchRun k c n g s).ent = s.ent ∧
    (State.searchRun k c n g s).vlu = s.vlu ∧ (State.searchRun k c n g s).mem = s.mem ∧
    (State.searchRun k c n g s).freeIndex = s.freeIndex ∧ (State.searchRun k c n g s).pending = s.pending := by
  induction k generalizing s n g with
  | zero => simp [State.searchRun]
  | succ k ih =>
    unfold State.searchRun
    try dsimp only
    (repeat' split) <;> simp [ih]

@[simp] theorem State.searchRun_grows (k : Nat) (c n : Nat) (g : Option Segment) (s : State) {old : PathUnit} (h : Grows old s.path) :
    Grows old (State.searchRun k c n g s).path := by
  induction k generalizing s n g with
  | zero => simp [State.searchRun, h]
  | succ k ih =>
    unfold State.searchRun
    try dsimp only
    (repeat' split) <;> simp (maxDischargeDepth := 40) [ih, h]

/-- Changes at most the Motion Unit, the Profile Unit, the waiting fills, the handed groups. -/
@[simp] theorem State.startSearch_frame (s : State) (c : Nat) :
    (s.startSearch c).run = s.run ∧ (s.startSearch c).path.still = s.path.still ∧
    (s.startSearch c).rfc.still = s.rfc.still ∧ (s.startSearch c).tooth = s.tooth ∧ (s.startSearch c).scan = s.scan ∧
    (s.startSearch c).sup = s.sup ∧ (s.startSearch c).rbc = s.rbc ∧ (s.startSearch c).ent = s.ent ∧
    (s.startSearch c).vlu = s.vlu ∧ (s.startSearch c).mem = s.mem ∧ (s.startSearch c).freeIndex = s.freeIndex ∧
    (s.startSearch c).pending = s.pending := by
  unfold State.startSearch
  try dsimp only
  (repeat' split) <;> simp

@[simp] theorem State.startSearch_grows (s : State) (c : Nat) {old : PathUnit} (h : Grows old s.path) :
    Grows old (s.startSearch c).path := by
  unfold State.startSearch
  try dsimp only
  (repeat' split) <;> simp (maxDischargeDepth := 40) [h]

/-- Changes at most the Motion Unit, the Profile Unit, the waiting fills, the handed groups. -/
@[simp] theorem State.markerUnknown_frame (s : State) (c : Nat) :
    (s.markerUnknown c).run = s.run ∧ (s.markerUnknown c).path.still = s.path.still ∧
    (s.markerUnknown c).rfc.still = s.rfc.still ∧ (s.markerUnknown c).tooth = s.tooth ∧
    (s.markerUnknown c).scan = s.scan ∧ (s.markerUnknown c).sup = s.sup ∧ (s.markerUnknown c).rbc = s.rbc ∧
    (s.markerUnknown c).ent = s.ent ∧ (s.markerUnknown c).vlu = s.vlu ∧ (s.markerUnknown c).mem = s.mem ∧
    (s.markerUnknown c).freeIndex = s.freeIndex ∧ (s.markerUnknown c).pending = s.pending := by
  unfold State.markerUnknown
  try dsimp only
  (repeat' split) <;> simp

@[simp] theorem State.markerUnknown_grows (s : State) (c : Nat) {old : PathUnit} (h : Grows old s.path) :
    Grows old (s.markerUnknown c).path := by
  unfold State.markerUnknown
  try dsimp only
  (repeat' split) <;> simp (maxDischargeDepth := 40) [h]

/-- Changes at most the Motion Unit, the Profile Unit, the waiting fills, the handed groups. -/
@[simp] theorem State.markerEvent_frame (s : State) (c : Nat) :
    (s.markerEvent c).run = s.run ∧ (s.markerEvent c).path.still = s.path.still ∧
    (s.markerEvent c).rfc.still = s.rfc.still ∧ (s.markerEvent c).tooth = s.tooth ∧ (s.markerEvent c).scan = s.scan ∧
    (s.markerEvent c).sup = s.sup ∧ (s.markerEvent c).rbc = s.rbc ∧ (s.markerEvent c).ent = s.ent ∧
    (s.markerEvent c).vlu = s.vlu ∧ (s.markerEvent c).mem = s.mem ∧ (s.markerEvent c).freeIndex = s.freeIndex ∧
    (s.markerEvent c).pending = s.pending := by
  unfold State.markerEvent
  try dsimp only
  (repeat' split) <;> simp

@[simp] theorem State.markerEvent_grows (s : State) (c : Nat) {old : PathUnit} (h : Grows old s.path) :
    Grows old (s.markerEvent c).path := by
  unfold State.markerEvent
  try dsimp only
  (repeat' split) <;> simp (maxDischargeDepth := 40) [h]

/-- Changes at most the handed groups. -/
@[simp] theorem State.finishRead_frame (s : State) (q : ProfileRead) (b : List Byte) (x : Nat) (r : Option Reason) :
    (s.finishRead q b x r).run = s.run ∧ (s.finishRead q b x r).path.still = s.path.still ∧
    (s.finishRead q b x r).rfc = s.rfc ∧ (s.finishRead q b x r).prof = s.prof ∧
    (s.finishRead q b x r).tooth = s.tooth ∧ (s.finishRead q b x r).scan = s.scan ∧
    (s.finishRead q b x r).motion = s.motion ∧ (s.finishRead q b x r).sup = s.sup ∧
    (s.finishRead q b x r).rbc = s.rbc ∧ (s.finishRead q b x r).ent = s.ent ∧ (s.finishRead q b x r).vlu = s.vlu ∧
    (s.finishRead q b x r).mem = s.mem ∧ (s.finishRead q b x r).freeIndex = s.freeIndex ∧
    (s.finishRead q b x r).pending = s.pending := by
  unfold State.finishRead
  try dsimp only
  (repeat' split) <;> simp

@[simp] theorem State.finishRead_grows (s : State) (q : ProfileRead) (b : List Byte) (x : Nat) (r : Option Reason) {old : PathUnit} (h : Grows old s.path) :
    Grows old (s.finishRead q b x r).path := by
  unfold State.finishRead
  try dsimp only
  (repeat' split) <;> simp (maxDischargeDepth := 40) [h]

/-- Changes at most the Profile Unit, the waiting fills, the handed groups. -/
@[simp] theorem State.profileRead_frame (s : State) (m : WindowMap) (k : Slot) (r : SlotRec) :
    (s.profileRead m k r).run = s.run ∧ (s.profileRead m k r).path.still = s.path.still ∧
    (s.profileRead m k r).rfc.still = s.rfc.still ∧ (s.profileRead m k r).tooth = s.tooth ∧
    (s.profileRead m k r).scan = s.scan ∧ (s.profileRead m k r).motion = s.motion ∧
    (s.profileRead m k r).sup = s.sup ∧ (s.profileRead m k r).rbc = s.rbc ∧ (s.profileRead m k r).ent = s.ent ∧
    (s.profileRead m k r).vlu = s.vlu ∧ (s.profileRead m k r).mem = s.mem ∧
    (s.profileRead m k r).freeIndex = s.freeIndex ∧ (s.profileRead m k r).pending = s.pending := by
  unfold State.profileRead
  try dsimp only
  (repeat' split) <;> simp

@[simp] theorem State.profileRead_grows (s : State) (m : WindowMap) (k : Slot) (r : SlotRec) {old : PathUnit} (h : Grows old s.path) :
    Grows old (s.profileRead m k r).path := by
  unfold State.profileRead
  try dsimp only
  (repeat' split) <;> simp (maxDischargeDepth := 40) [h]

/-- Changes at most the handed groups. -/
@[simp] theorem State.recordBad_frame (s : State) (n : Nat) (r : Reason) (o : Option Nat) :
    (s.recordBad n r o).run = s.run ∧ (s.recordBad n r o).path.still = s.path.still ∧
    (s.recordBad n r o).rfc = s.rfc ∧ (s.recordBad n r o).prof = s.prof ∧ (s.recordBad n r o).tooth = s.tooth ∧
    (s.recordBad n r o).scan = s.scan ∧ (s.recordBad n r o).motion = s.motion ∧ (s.recordBad n r o).sup = s.sup ∧
    (s.recordBad n r o).rbc = s.rbc ∧ (s.recordBad n r o).ent = s.ent ∧ (s.recordBad n r o).vlu = s.vlu ∧
    (s.recordBad n r o).mem = s.mem ∧ (s.recordBad n r o).freeIndex = s.freeIndex ∧
    (s.recordBad n r o).pending = s.pending := by
  unfold State.recordBad
  try dsimp only
  (repeat' split) <;> simp

@[simp] theorem State.recordBad_grows (s : State) (n : Nat) (r : Reason) (o : Option Nat) {old : PathUnit} (h : Grows old s.path) :
    Grows old (s.recordBad n r o).path := by
  unfold State.recordBad
  try dsimp only
  (repeat' split) <;> simp (maxDischargeDepth := 40) [h]

/-- Changes at most the Profile Unit, the handed groups. -/
@[simp] theorem State.receiveRecord_frame (s : State) (n : Nat) (d u : Bool) (b : List Byte) :
    (s.receiveRecord n d u b).2.run = s.run ∧ (s.receiveRecord n d u b).2.path.still = s.path.still ∧
    (s.receiveRecord n d u b).2.rfc = s.rfc ∧ (s.receiveRecord n d u b).2.tooth = s.tooth ∧
    (s.receiveRecord n d u b).2.scan = s.scan ∧ (s.receiveRecord n d u b).2.motion = s.motion ∧
    (s.receiveRecord n d u b).2.sup = s.sup ∧ (s.receiveRecord n d u b).2.rbc = s.rbc ∧
    (s.receiveRecord n d u b).2.ent = s.ent ∧ (s.receiveRecord n d u b).2.vlu = s.vlu ∧
    (s.receiveRecord n d u b).2.mem = s.mem ∧ (s.receiveRecord n d u b).2.freeIndex = s.freeIndex ∧
    (s.receiveRecord n d u b).2.pending = s.pending := by
  unfold State.receiveRecord
  try dsimp only
  (repeat' split) <;> simp

@[simp] theorem State.receiveRecord_grows (s : State) (n : Nat) (d u : Bool) (b : List Byte) {old : PathUnit} (h : Grows old s.path) :
    Grows old (s.receiveRecord n d u b).2.path := by
  unfold State.receiveRecord
  try dsimp only
  (repeat' split) <;> simp (maxDischargeDepth := 40) [h]

/-- Changes at most the Profile Unit, the waiting fills, the handed groups. -/
@[simp] theorem State.seekAgain_frame (s : State) (n : Nat) :
    (s.seekAgain n).run = s.run ∧ (s.seekAgain n).path.still = s.path.still ∧
    (s.seekAgain n).rfc.still = s.rfc.still ∧ (s.seekAgain n).tooth = s.tooth ∧ (s.seekAgain n).scan = s.scan ∧
    (s.seekAgain n).motion = s.motion ∧ (s.seekAgain n).sup = s.sup ∧ (s.seekAgain n).rbc = s.rbc ∧
    (s.seekAgain n).ent = s.ent ∧ (s.seekAgain n).vlu = s.vlu ∧ (s.seekAgain n).mem = s.mem ∧
    (s.seekAgain n).freeIndex = s.freeIndex ∧ (s.seekAgain n).pending = s.pending := by
  unfold State.seekAgain
  try dsimp only
  (repeat' split) <;> simp

@[simp] theorem State.seekAgain_grows (s : State) (n : Nat) {old : PathUnit} (h : Grows old s.path) :
    Grows old (s.seekAgain n).path := by
  unfold State.seekAgain
  try dsimp only
  (repeat' split) <;> simp (maxDischargeDepth := 40) [h]

/-- Changes at most the Profile Unit, the waiting fills, the handed groups. -/
@[simp] theorem State.serveWindow_frame (s : State) (n : Nat) (a : Arrival) :
    (s.serveWindow n a).run = s.run ∧ (s.serveWindow n a).path.still = s.path.still ∧
    (s.serveWindow n a).rfc.still = s.rfc.still ∧ (s.serveWindow n a).tooth = s.tooth ∧
    (s.serveWindow n a).scan = s.scan ∧ (s.serveWindow n a).motion = s.motion ∧ (s.serveWindow n a).sup = s.sup ∧
    (s.serveWindow n a).rbc = s.rbc ∧ (s.serveWindow n a).ent = s.ent ∧ (s.serveWindow n a).vlu = s.vlu ∧
    (s.serveWindow n a).mem = s.mem ∧ (s.serveWindow n a).freeIndex = s.freeIndex ∧
    (s.serveWindow n a).pending = s.pending := by
  unfold State.serveWindow
  try dsimp only
  (repeat' split) <;> simp

@[simp] theorem State.serveWindow_grows (s : State) (n : Nat) (a : Arrival) {old : PathUnit} (h : Grows old s.path) :
    Grows old (s.serveWindow n a).path := by
  unfold State.serveWindow
  try dsimp only
  (repeat' split) <;> simp (maxDischargeDepth := 40) [h]

/-- Changes at most the Profile Unit, the waiting fills, the handed groups. -/
@[simp] theorem State.windowGrows_frame (s : State) (n : Nat) :
    (s.windowGrows n).run = s.run ∧ (s.windowGrows n).path.still = s.path.still ∧
    (s.windowGrows n).rfc.still = s.rfc.still ∧ (s.windowGrows n).tooth = s.tooth ∧ (s.windowGrows n).scan = s.scan ∧
    (s.windowGrows n).motion = s.motion ∧ (s.windowGrows n).sup = s.sup ∧ (s.windowGrows n).rbc = s.rbc ∧
    (s.windowGrows n).ent = s.ent ∧ (s.windowGrows n).vlu = s.vlu ∧ (s.windowGrows n).mem = s.mem ∧
    (s.windowGrows n).freeIndex = s.freeIndex ∧ (s.windowGrows n).pending = s.pending := by
  unfold State.windowGrows
  try dsimp only
  (repeat' split) <;> simp

@[simp] theorem State.windowGrows_grows (s : State) (n : Nat) {old : PathUnit} (h : Grows old s.path) :
    Grows old (s.windowGrows n).path := by
  unfold State.windowGrows
  try dsimp only
  (repeat' split) <;> simp (maxDischargeDepth := 40) [h]

/-- Changes at most the Motion Unit, the Profile Unit, the waiting fills, the handed groups. -/
@[simp] theorem State.serveRebuild_frame (s : State) (n : Nat) (a : Arrival) :
    (s.serveRebuild n a).run = s.run ∧ (s.serveRebuild n a).path.still = s.path.still ∧
    (s.serveRebuild n a).rfc.still = s.rfc.still ∧ (s.serveRebuild n a).tooth = s.tooth ∧
    (s.serveRebuild n a).scan = s.scan ∧ (s.serveRebuild n a).sup = s.sup ∧ (s.serveRebuild n a).rbc = s.rbc ∧
    (s.serveRebuild n a).ent = s.ent ∧ (s.serveRebuild n a).vlu = s.vlu ∧ (s.serveRebuild n a).mem = s.mem ∧
    (s.serveRebuild n a).freeIndex = s.freeIndex ∧ (s.serveRebuild n a).pending = s.pending := by
  unfold State.serveRebuild
  try dsimp only
  (repeat' split) <;> simp

@[simp] theorem State.serveRebuild_grows (s : State) (n : Nat) (a : Arrival) {old : PathUnit} (h : Grows old s.path) :
    Grows old (s.serveRebuild n a).path := by
  unfold State.serveRebuild
  try dsimp only
  (repeat' split) <;> simp (maxDischargeDepth := 40) [h]

/-- Changes at most the Motion Unit, the Profile Unit, the waiting fills, the handed groups. -/
@[simp] theorem State.serveWalk_frame (s : State) (n : Nat) (a : Arrival) :
    (s.serveWalk n a).run = s.run ∧ (s.serveWalk n a).path.still = s.path.still ∧
    (s.serveWalk n a).rfc.still = s.rfc.still ∧ (s.serveWalk n a).tooth = s.tooth ∧ (s.serveWalk n a).scan = s.scan ∧
    (s.serveWalk n a).sup = s.sup ∧ (s.serveWalk n a).rbc = s.rbc ∧ (s.serveWalk n a).ent = s.ent ∧
    (s.serveWalk n a).vlu = s.vlu ∧ (s.serveWalk n a).mem = s.mem ∧ (s.serveWalk n a).freeIndex = s.freeIndex ∧
    (s.serveWalk n a).pending = s.pending := by
  unfold State.serveWalk
  try dsimp only
  (repeat' split) <;> simp

@[simp] theorem State.serveWalk_grows (s : State) (n : Nat) (a : Arrival) {old : PathUnit} (h : Grows old s.path) :
    Grows old (s.serveWalk n a).path := by
  unfold State.serveWalk
  try dsimp only
  (repeat' split) <;> simp (maxDischargeDepth := 40) [h]

/-- Changes at most the Motion Unit, the Profile Unit, the waiting fills, the handed groups. -/
@[simp] theorem State.serveSearch_frame (s : State) (n : Nat) (a : Arrival) :
    (s.serveSearch n a).run = s.run ∧ (s.serveSearch n a).path.still = s.path.still ∧
    (s.serveSearch n a).rfc.still = s.rfc.still ∧ (s.serveSearch n a).tooth = s.tooth ∧
    (s.serveSearch n a).scan = s.scan ∧ (s.serveSearch n a).sup = s.sup ∧ (s.serveSearch n a).rbc = s.rbc ∧
    (s.serveSearch n a).ent = s.ent ∧ (s.serveSearch n a).vlu = s.vlu ∧ (s.serveSearch n a).mem = s.mem ∧
    (s.serveSearch n a).freeIndex = s.freeIndex ∧ (s.serveSearch n a).pending = s.pending := by
  unfold State.serveSearch
  try dsimp only
  (repeat' split) <;> simp

@[simp] theorem State.serveSearch_grows (s : State) (n : Nat) (a : Arrival) {old : PathUnit} (h : Grows old s.path) :
    Grows old (s.serveSearch n a).path := by
  unfold State.serveSearch
  try dsimp only
  (repeat' split) <;> simp (maxDischargeDepth := 40) [h]

/-- Reads finished one after another. -/
theorem finishReads_frame (b : List Byte) (n : Nat) (r : Option Reason) (xs : List ProfileRead) (s : State) :
    (xs.foldl (fun u q => u.finishRead q b n r) s).run = s.run ∧
    (xs.foldl (fun u q => u.finishRead q b n r) s).path.still = s.path.still ∧
    (xs.foldl (fun u q => u.finishRead q b n r) s).rfc = s.rfc ∧
    (xs.foldl (fun u q => u.finishRead q b n r) s).prof = s.prof ∧
    (xs.foldl (fun u q => u.finishRead q b n r) s).tooth = s.tooth ∧
    (xs.foldl (fun u q => u.finishRead q b n r) s).scan = s.scan ∧
    (xs.foldl (fun u q => u.finishRead q b n r) s).motion = s.motion ∧
    (xs.foldl (fun u q => u.finishRead q b n r) s).sup = s.sup ∧
    (xs.foldl (fun u q => u.finishRead q b n r) s).rbc = s.rbc ∧
    (xs.foldl (fun u q => u.finishRead q b n r) s).ent = s.ent ∧
    (xs.foldl (fun u q => u.finishRead q b n r) s).vlu = s.vlu ∧
    (xs.foldl (fun u q => u.finishRead q b n r) s).mem = s.mem ∧
    (xs.foldl (fun u q => u.finishRead q b n r) s).freeIndex = s.freeIndex ∧
    (xs.foldl (fun u q => u.finishRead q b n r) s).pending = s.pending := by
  induction xs generalizing s with
  | nil => simp
  | cons x xs ih => simp [ih]

theorem finishReads_grows (b : List Byte) (n : Nat) (r : Option Reason) (xs : List ProfileRead) (s : State) {p : PathUnit} (h : Grows p s.path) :
    Grows p (xs.foldl (fun u q => u.finishRead q b n r) s).path := by
  induction xs generalizing s with
  | nil => simpa using h
  | cons x xs ih => simp (maxDischargeDepth := 40) [ih, h]

/-- Changes at most the Profile Unit, the waiting fills, the handed groups. -/
@[simp] theorem State.serveReads_frame (s : State) (n : Nat) (a : Arrival) (b : List Byte) :
    (s.serveReads n a b).run = s.run ∧ (s.serveReads n a b).path.still = s.path.still ∧
    (s.serveReads n a b).rfc.still = s.rfc.still ∧ (s.serveReads n a b).tooth = s.tooth ∧
    (s.serveReads n a b).scan = s.scan ∧ (s.serveReads n a b).motion = s.motion ∧ (s.serveReads n a b).sup = s.sup ∧
    (s.serveReads n a b).rbc = s.rbc ∧ (s.serveReads n a b).ent = s.ent ∧ (s.serveReads n a b).vlu = s.vlu ∧
    (s.serveReads n a b).mem = s.mem ∧ (s.serveReads n a b).freeIndex = s.freeIndex ∧
    (s.serveReads n a b).pending = s.pending := by
  unfold State.serveReads
  try dsimp only
  (repeat' split) <;> simp [finishReads_frame]

@[simp] theorem State.serveReads_grows (s : State) (n : Nat) (a : Arrival) (b : List Byte) {old : PathUnit} (h : Grows old s.path) :
    Grows old (s.serveReads n a b).path := by
  unfold State.serveReads
  try dsimp only
  (repeat' split) <;> simp (maxDischargeDepth := 40) [finishReads_grows, h]

/-- Changes at most the Motion Unit, the Profile Unit, the waiting fills, the handed groups. -/
@[simp] theorem State.fillArrived_frame (s : State) (n : Nat) (d u : Bool) (b : List Byte) :
    (s.fillArrived n d u b).run = s.run ∧ (s.fillArrived n d u b).path.still = s.path.still ∧
    (s.fillArrived n d u b).rfc.still = s.rfc.still ∧ (s.fillArrived n d u b).tooth = s.tooth ∧
    (s.fillArrived n d u b).scan = s.scan ∧ (s.fillArrived n d u b).sup = s.sup ∧ (s.fillArrived n d u b).rbc = s.rbc ∧
    (s.fillArrived n d u b).ent = s.ent ∧ (s.fillArrived n d u b).vlu = s.vlu ∧ (s.fillArrived n d u b).mem = s.mem ∧
    (s.fillArrived n d u b).freeIndex = s.freeIndex ∧ (s.fillArrived n d u b).pending = s.pending := by
  unfold State.fillArrived
  try dsimp only
  (repeat' split) <;> simp

@[simp] theorem State.fillArrived_grows (s : State) (n : Nat) (d u : Bool) (b : List Byte) {old : PathUnit} (h : Grows old s.path) :
    Grows old (s.fillArrived n d u b).path := by
  unfold State.fillArrived
  try dsimp only
  (repeat' split) <;> simp (maxDischargeDepth := 40) [h]

/-- Entries set FILLING one after another. -/
theorem entriesFilling_frame (xs : List Entry) (s : State) :
    (xs.foldl (fun t e => t.setEntry e.seg .filling none) s).run = s.run ∧
    (xs.foldl (fun t e => t.setEntry e.seg .filling none) s).path = s.path ∧
    (xs.foldl (fun t e => t.setEntry e.seg .filling none) s).rfc = s.rfc ∧
    (xs.foldl (fun t e => t.setEntry e.seg .filling none) s).tooth = s.tooth ∧
    (xs.foldl (fun t e => t.setEntry e.seg .filling none) s).scan = s.scan ∧
    (xs.foldl (fun t e => t.setEntry e.seg .filling none) s).motion = s.motion ∧
    (xs.foldl (fun t e => t.setEntry e.seg .filling none) s).sup = s.sup ∧
    (xs.foldl (fun t e => t.setEntry e.seg .filling none) s).rbc = s.rbc ∧
    (xs.foldl (fun t e => t.setEntry e.seg .filling none) s).ent = s.ent ∧
    (xs.foldl (fun t e => t.setEntry e.seg .filling none) s).vlu = s.vlu ∧
    (xs.foldl (fun t e => t.setEntry e.seg .filling none) s).mem = s.mem ∧
    (xs.foldl (fun t e => t.setEntry e.seg .filling none) s).freeIndex = s.freeIndex ∧
    (xs.foldl (fun t e => t.setEntry e.seg .filling none) s).pending = s.pending := by
  induction xs generalizing s with
  | nil => simp
  | cons x xs ih => simp [ih]

/-- Entries sought again one after another. -/
theorem entriesSought_frame (xs : List Entry) (s : State) :
    (xs.foldl (fun t e => t.seekAgain e.seg) s).run = s.run ∧
    (xs.foldl (fun t e => t.seekAgain e.seg) s).path.still = s.path.still ∧
    (xs.foldl (fun t e => t.seekAgain e.seg) s).rfc.still = s.rfc.still ∧
    (xs.foldl (fun t e => t.seekAgain e.seg) s).tooth = s.tooth ∧
    (xs.foldl (fun t e => t.seekAgain e.seg) s).scan = s.scan ∧
    (xs.foldl (fun t e => t.seekAgain e.seg) s).motion = s.motion ∧
    (xs.foldl (fun t e => t.seekAgain e.seg) s).sup = s.sup ∧
    (xs.foldl (fun t e => t.seekAgain e.seg) s).rbc = s.rbc ∧
    (xs.foldl (fun t e => t.seekAgain e.seg) s).ent = s.ent ∧
    (xs.foldl (fun t e => t.seekAgain e.seg) s).vlu = s.vlu ∧
    (xs.foldl (fun t e => t.seekAgain e.seg) s).mem = s.mem ∧
    (xs.foldl (fun t e => t.seekAgain e.seg) s).freeIndex = s.freeIndex ∧
    (xs.foldl (fun t e => t.seekAgain e.seg) s).pending = s.pending := by
  induction xs generalizing s with
  | nil => simp
  | cons x xs ih => simp [ih]

theorem entriesSought_grows (xs : List Entry) (s : State) {p : PathUnit} (h : Grows p s.path) :
    Grows p (xs.foldl (fun t e => t.seekAgain e.seg) s).path := by
  induction xs generalizing s with
  | nil => simpa using h
  | cons x xs ih => simp (maxDischargeDepth := 40) [ih, h]

/-- Changes at most the RFC, the Profile Unit, the Motion Unit, the handed groups. -/
@[simp] theorem State.invalidate_frame (s : State) (p : Nat → Bool) :
    (s.invalidate p).1.run = s.run ∧ (s.invalidate p).1.path.still = s.path.still ∧
    (s.invalidate p).1.tooth = s.tooth ∧ (s.invalidate p).1.scan = s.scan ∧ (s.invalidate p).1.sup = s.sup ∧
    (s.invalidate p).1.rbc = s.rbc ∧ (s.invalidate p).1.ent = s.ent ∧ (s.invalidate p).1.vlu = s.vlu ∧
    (s.invalidate p).1.mem = s.mem ∧ (s.invalidate p).1.freeIndex = s.freeIndex ∧
    (s.invalidate p).1.pending = s.pending := by
  simp [State.invalidate, entriesFilling_frame, entriesSought_frame]

@[simp] theorem State.invalidate_grows (s : State) (p : Nat → Bool) {old : PathUnit} (h : Grows old s.path) :
    Grows old (s.invalidate p).1.path := by
  simp (maxDischargeDepth := 40) [State.invalidate, entriesFilling_frame, entriesSought_grows, h]

/-- Changes at most the RFC, the Profile Unit, the Motion Unit, the handed groups. -/
@[simp] theorem State.profileInvalidate_frame (s : State) (k : Slot) (r : SlotRec) :
    (s.profileInvalidate k r).run = s.run ∧ (s.profileInvalidate k r).path.still = s.path.still ∧
    (s.profileInvalidate k r).tooth = s.tooth ∧ (s.profileInvalidate k r).scan = s.scan ∧
    (s.profileInvalidate k r).sup = s.sup ∧ (s.profileInvalidate k r).rbc = s.rbc ∧
    (s.profileInvalidate k r).ent = s.ent ∧ (s.profileInvalidate k r).vlu = s.vlu ∧
    (s.profileInvalidate k r).mem = s.mem ∧ (s.profileInvalidate k r).freeIndex = s.freeIndex ∧
    (s.profileInvalidate k r).pending = s.pending := by
  unfold State.profileInvalidate
  try dsimp only
  (repeat' split) <;> simp

@[simp] theorem State.profileInvalidate_grows (s : State) (k : Slot) (r : SlotRec) {old : PathUnit} (h : Grows old s.path) :
    Grows old (s.profileInvalidate k r).path := by
  unfold State.profileInvalidate
  try dsimp only
  (repeat' split) <;> simp (maxDischargeDepth := 40) [h]

/-- Changes at most the RFC, the handed groups. -/
@[simp] theorem State.makeCurrent_frame (s : State) (o : FlashOp) :
    (s.makeCurrent o).run = s.run ∧ (s.makeCurrent o).path.still = s.path.still ∧ (s.makeCurrent o).prof = s.prof ∧
    (s.makeCurrent o).tooth = s.tooth ∧ (s.makeCurrent o).scan = s.scan ∧ (s.makeCurrent o).motion = s.motion ∧
    (s.makeCurrent o).sup = s.sup ∧ (s.makeCurrent o).rbc = s.rbc ∧ (s.makeCurrent o).ent = s.ent ∧
    (s.makeCurrent o).vlu = s.vlu ∧ (s.makeCurrent o).mem = s.mem ∧ (s.makeCurrent o).freeIndex = s.freeIndex ∧
    (s.makeCurrent o).pending = s.pending := by
  unfold State.makeCurrent
  try dsimp only
  (repeat' split) <;> simp

@[simp] theorem State.makeCurrent_grows (s : State) (o : FlashOp) {old : PathUnit} (h : Grows old s.path) :
    Grows old (s.makeCurrent o).path := by
  unfold State.makeCurrent
  try dsimp only
  (repeat' split) <;> simp (maxDischargeDepth := 40) [h]

/-- Changes at most the RFC, the handed groups. -/
@[simp] theorem State.promote_frame (k : Nat) (s : State) :
    (State.promote k s).run = s.run ∧ (State.promote k s).path.still = s.path.still ∧
    (State.promote k s).prof = s.prof ∧ (State.promote k s).tooth = s.tooth ∧ (State.promote k s).scan = s.scan ∧
    (State.promote k s).motion = s.motion ∧ (State.promote k s).sup = s.sup ∧ (State.promote k s).rbc = s.rbc ∧
    (State.promote k s).ent = s.ent ∧ (State.promote k s).vlu = s.vlu ∧ (State.promote k s).mem = s.mem ∧
    (State.promote k s).freeIndex = s.freeIndex ∧ (State.promote k s).pending = s.pending := by
  induction k generalizing s with
  | zero => simp [State.promote]
  | succ k ih =>
    unfold State.promote
    try dsimp only
    (repeat' split) <;> simp [ih]

@[simp] theorem State.promote_grows (k : Nat) (s : State) {old : PathUnit} (h : Grows old s.path) :
    Grows old (State.promote k s).path := by
  induction k generalizing s with
  | zero => simp [State.promote, h]
  | succ k ih =>
    unfold State.promote
    try dsimp only
    (repeat' split) <;> simp (maxDischargeDepth := 40) [ih, h]

/-- Changes at most the RFC. -/
@[simp] theorem State.startFill_frame (s : State) (n : Nat) :
    (s.startFill n).run = s.run ∧ (s.startFill n).path = s.path ∧ (s.startFill n).prof = s.prof ∧
    (s.startFill n).tooth = s.tooth ∧ (s.startFill n).scan = s.scan ∧ (s.startFill n).motion = s.motion ∧
    (s.startFill n).sup = s.sup ∧ (s.startFill n).rbc = s.rbc ∧ (s.startFill n).ent = s.ent ∧
    (s.startFill n).vlu = s.vlu ∧ (s.startFill n).mem = s.mem ∧ (s.startFill n).freeIndex = s.freeIndex ∧
    (s.startFill n).pending = s.pending := by
  unfold State.startFill
  try dsimp only
  (repeat' split) <;> simp

/-- Changes at most the RFC. -/
@[simp] theorem State.flashStep_frame (s : State) (c : CurrentFlash) :
    (s.flashStep c).run = s.run ∧ (s.flashStep c).path = s.path ∧ (s.flashStep c).prof = s.prof ∧
    (s.flashStep c).tooth = s.tooth ∧ (s.flashStep c).scan = s.scan ∧ (s.flashStep c).motion = s.motion ∧
    (s.flashStep c).sup = s.sup ∧ (s.flashStep c).rbc = s.rbc ∧ (s.flashStep c).ent = s.ent ∧
    (s.flashStep c).vlu = s.vlu ∧ (s.flashStep c).mem = s.mem ∧ (s.flashStep c).freeIndex = s.freeIndex ∧
    (s.flashStep c).pending = s.pending := by
  unfold State.flashStep
  try dsimp only
  (repeat' split) <;> simp

/-- Changes at most the RFC. -/
@[simp] theorem State.startStep_frame (s : State) (c : CurrentFlash) :
    (s.startStep c).run = s.run ∧ (s.startStep c).path = s.path ∧ (s.startStep c).prof = s.prof ∧
    (s.startStep c).tooth = s.tooth ∧ (s.startStep c).scan = s.scan ∧ (s.startStep c).motion = s.motion ∧
    (s.startStep c).sup = s.sup ∧ (s.startStep c).rbc = s.rbc ∧ (s.startStep c).ent = s.ent ∧
    (s.startStep c).vlu = s.vlu ∧ (s.startStep c).mem = s.mem ∧ (s.startStep c).freeIndex = s.freeIndex ∧
    (s.startStep c).pending = s.pending := by
  unfold State.startStep
  try dsimp only
  (repeat' split) <;> simp

/-- Changes at most the RFC. -/
@[simp] theorem State.chooseFill_frame (s : State) :
    s.chooseFill.run = s.run ∧ s.chooseFill.path = s.path ∧ s.chooseFill.prof = s.prof ∧ s.chooseFill.tooth = s.tooth ∧
    s.chooseFill.scan = s.scan ∧ s.chooseFill.motion = s.motion ∧ s.chooseFill.sup = s.sup ∧ s.chooseFill.rbc = s.rbc ∧
    s.chooseFill.ent = s.ent ∧ s.chooseFill.vlu = s.vlu ∧ s.chooseFill.mem = s.mem ∧
    s.chooseFill.freeIndex = s.freeIndex ∧ s.chooseFill.pending = s.pending := by
  unfold State.chooseFill
  try dsimp only
  (repeat' split) <;> simp

/-- Changes at most the RFC. -/
@[simp] theorem State.chooseService_frame (s : State) :
    s.chooseService.run = s.run ∧ s.chooseService.path = s.path ∧ s.chooseService.prof = s.prof ∧ s.chooseService.tooth = s.tooth ∧
    s.chooseService.scan = s.scan ∧ s.chooseService.motion = s.motion ∧ s.chooseService.sup = s.sup ∧ s.chooseService.rbc = s.rbc ∧
    s.chooseService.ent = s.ent ∧ s.chooseService.vlu = s.vlu ∧ s.chooseService.mem = s.mem ∧
    s.chooseService.freeIndex = s.freeIndex ∧ s.chooseService.pending = s.pending := by
  unfold State.chooseService
  try dsimp only
  (repeat' split) <;> simp

/-- Changes at most the waiting fills. -/
@[simp] theorem State.pruneFills_frame (s : State) :
    s.pruneFills.run = s.run ∧ s.pruneFills.path = s.path ∧ s.pruneFills.rfc.still = s.rfc.still ∧
    s.pruneFills.prof = s.prof ∧ s.pruneFills.tooth = s.tooth ∧ s.pruneFills.scan = s.scan ∧
    s.pruneFills.motion = s.motion ∧ s.pruneFills.sup = s.sup ∧ s.pruneFills.rbc = s.rbc ∧ s.pruneFills.ent = s.ent ∧
    s.pruneFills.vlu = s.vlu ∧ s.pruneFills.mem = s.mem ∧ s.pruneFills.freeIndex = s.freeIndex ∧
    s.pruneFills.pending = s.pending := by
  unfold State.pruneFills
  try dsimp only
  (repeat' split) <;> simp

/-- Changes at most the RFC, the handed groups. -/
@[simp] theorem State.rfcSettle_frame (s : State) :
    s.rfcSettle.run = s.run ∧ s.rfcSettle.path.still = s.path.still ∧ s.rfcSettle.prof = s.prof ∧
    s.rfcSettle.tooth = s.tooth ∧ s.rfcSettle.scan = s.scan ∧ s.rfcSettle.motion = s.motion ∧
    s.rfcSettle.sup = s.sup ∧ s.rfcSettle.rbc = s.rbc ∧ s.rfcSettle.ent = s.ent ∧ s.rfcSettle.vlu = s.vlu ∧
    s.rfcSettle.mem = s.mem ∧ s.rfcSettle.freeIndex = s.freeIndex ∧ s.rfcSettle.pending = s.pending := by
  unfold State.rfcSettle
  try dsimp only
  (repeat' split) <;> simp

@[simp] theorem State.rfcSettle_grows (s : State) {old : PathUnit} (h : Grows old s.path) :
    Grows old s.rfcSettle.path := by
  unfold State.rfcSettle
  try dsimp only
  (repeat' split) <;> simp (maxDischargeDepth := 40) [h]

/-- Changes at most the RFC. -/
@[simp] theorem State.joinItems_frame (s : State) (o : FlashOp) :
    (s.joinItems o).run = s.run ∧ (s.joinItems o).path = s.path ∧ (s.joinItems o).prof = s.prof ∧
    (s.joinItems o).tooth = s.tooth ∧ (s.joinItems o).scan = s.scan ∧ (s.joinItems o).motion = s.motion ∧
    (s.joinItems o).sup = s.sup ∧ (s.joinItems o).rbc = s.rbc ∧ (s.joinItems o).ent = s.ent ∧
    (s.joinItems o).vlu = s.vlu ∧ (s.joinItems o).mem = s.mem ∧ (s.joinItems o).freeIndex = s.freeIndex ∧
    (s.joinItems o).pending = s.pending := by
  unfold State.joinItems
  try dsimp only
  (repeat' split) <;> simp

/-- Changes at most the RFC, the handed groups. -/
@[simp] theorem State.flashReadOp_frame (s : State) (m : WindowMap) (k : Slot) (r : SlotRec) :
    (s.flashReadOp m k r).run = s.run ∧ (s.flashReadOp m k r).path.still = s.path.still ∧
    (s.flashReadOp m k r).prof = s.prof ∧ (s.flashReadOp m k r).tooth = s.tooth ∧
    (s.flashReadOp m k r).scan = s.scan ∧ (s.flashReadOp m k r).motion = s.motion ∧
    (s.flashReadOp m k r).sup = s.sup ∧ (s.flashReadOp m k r).rbc = s.rbc ∧ (s.flashReadOp m k r).ent = s.ent ∧
    (s.flashReadOp m k r).vlu = s.vlu ∧ (s.flashReadOp m k r).mem = s.mem ∧
    (s.flashReadOp m k r).freeIndex = s.freeIndex ∧ (s.flashReadOp m k r).pending = s.pending := by
  unfold State.flashReadOp
  try dsimp only
  (repeat' split) <;> simp

@[simp] theorem State.flashReadOp_grows (s : State) (m : WindowMap) (k : Slot) (r : SlotRec) {old : PathUnit} (h : Grows old s.path) :
    Grows old (s.flashReadOp m k r).path := by
  unfold State.flashReadOp
  try dsimp only
  (repeat' split) <;> simp (maxDischargeDepth := 40) [h]

/-- Changes at most the RFC, the handed groups. -/
@[simp] theorem State.flashProgramOp_frame (s : State) (m : WindowMap) (k : Slot) (r : SlotRec) :
    (s.flashProgramOp m k r).run = s.run ∧ (s.flashProgramOp m k r).path.still = s.path.still ∧
    (s.flashProgramOp m k r).prof = s.prof ∧ (s.flashProgramOp m k r).tooth = s.tooth ∧
    (s.flashProgramOp m k r).scan = s.scan ∧ (s.flashProgramOp m k r).motion = s.motion ∧
    (s.flashProgramOp m k r).sup = s.sup ∧ (s.flashProgramOp m k r).rbc = s.rbc ∧
    (s.flashProgramOp m k r).ent = s.ent ∧ (s.flashProgramOp m k r).vlu = s.vlu ∧
    (s.flashProgramOp m k r).mem = s.mem ∧ (s.flashProgramOp m k r).freeIndex = s.freeIndex ∧
    (s.flashProgramOp m k r).pending = s.pending := by
  unfold State.flashProgramOp
  try dsimp only
  (repeat' split) <;> simp

@[simp] theorem State.flashProgramOp_grows (s : State) (m : WindowMap) (k : Slot) (r : SlotRec) {old : PathUnit} (h : Grows old s.path) :
    Grows old (s.flashProgramOp m k r).path := by
  unfold State.flashProgramOp
  try dsimp only
  (repeat' split) <;> simp (maxDischargeDepth := 40) [h]

/-- Changes at most the RFC, the handed groups. -/
@[simp] theorem State.flashEraseOp_frame (s : State) (k : Slot) (r : SlotRec) :
    (s.flashEraseOp k r).run = s.run ∧ (s.flashEraseOp k r).path.still = s.path.still ∧
    (s.flashEraseOp k r).prof = s.prof ∧ (s.flashEraseOp k r).tooth = s.tooth ∧ (s.flashEraseOp k r).scan = s.scan ∧
    (s.flashEraseOp k r).motion = s.motion ∧ (s.flashEraseOp k r).sup = s.sup ∧ (s.flashEraseOp k r).rbc = s.rbc ∧
    (s.flashEraseOp k r).ent = s.ent ∧ (s.flashEraseOp k r).vlu = s.vlu ∧ (s.flashEraseOp k r).mem = s.mem ∧
    (s.flashEraseOp k r).freeIndex = s.freeIndex ∧ (s.flashEraseOp k r).pending = s.pending := by
  unfold State.flashEraseOp
  try dsimp only
  (repeat' split) <;> simp

@[simp] theorem State.flashEraseOp_grows (s : State) (k : Slot) (r : SlotRec) {old : PathUnit} (h : Grows old s.path) :
    Grows old (s.flashEraseOp k r).path := by
  unfold State.flashEraseOp
  try dsimp only
  (repeat' split) <;> simp (maxDischargeDepth := 40) [h]

/-- Changes at most the RFC. -/
@[simp] theorem State.linkFree_frame (s : State) :
    s.linkFree.run = s.run ∧ s.linkFree.path = s.path ∧ s.linkFree.prof = s.prof ∧ s.linkFree.tooth = s.tooth ∧
    s.linkFree.scan = s.scan ∧ s.linkFree.motion = s.motion ∧ s.linkFree.sup = s.sup ∧ s.linkFree.rbc = s.rbc ∧
    s.linkFree.ent = s.ent ∧ s.linkFree.vlu = s.vlu ∧ s.linkFree.mem = s.mem ∧ s.linkFree.freeIndex = s.freeIndex ∧
    s.linkFree.pending = s.pending := by
  unfold State.linkFree
  try dsimp only
  (repeat' split) <;> simp

/-- Changes at most the RFC, the Profile Unit, the Motion Unit, the handed groups. -/
@[simp] theorem State.fillEnds_frame (s : State) (n : Nat) (d : Bool) (b : List Byte) :
    (s.fillEnds n d b).run = s.run ∧ (s.fillEnds n d b).path.still = s.path.still ∧
    (s.fillEnds n d b).tooth = s.tooth ∧ (s.fillEnds n d b).scan = s.scan ∧ (s.fillEnds n d b).sup = s.sup ∧
    (s.fillEnds n d b).rbc = s.rbc ∧ (s.fillEnds n d b).ent = s.ent ∧ (s.fillEnds n d b).vlu = s.vlu ∧
    (s.fillEnds n d b).mem = s.mem ∧ (s.fillEnds n d b).freeIndex = s.freeIndex ∧
    (s.fillEnds n d b).pending = s.pending := by
  unfold State.fillEnds
  try dsimp only
  (repeat' split) <;> simp

@[simp] theorem State.fillEnds_grows (s : State) (n : Nat) (d : Bool) (b : List Byte) {old : PathUnit} (h : Grows old s.path) :
    Grows old (s.fillEnds n d b).path := by
  unfold State.fillEnds
  try dsimp only
  (repeat' split) <;> simp (maxDischargeDepth := 40) [h]

/-- Changes at most the RFC, the handed groups. -/
@[simp] theorem State.serviceReadEnds_frame (s : State) (c : CurrentFlash) :
    (s.serviceReadEnds c).run = s.run ∧ (s.serviceReadEnds c).path.still = s.path.still ∧
    (s.serviceReadEnds c).prof = s.prof ∧ (s.serviceReadEnds c).tooth = s.tooth ∧
    (s.serviceReadEnds c).scan = s.scan ∧ (s.serviceReadEnds c).motion = s.motion ∧
    (s.serviceReadEnds c).sup = s.sup ∧ (s.serviceReadEnds c).rbc = s.rbc ∧ (s.serviceReadEnds c).ent = s.ent ∧
    (s.serviceReadEnds c).vlu = s.vlu ∧ (s.serviceReadEnds c).mem = s.mem ∧
    (s.serviceReadEnds c).freeIndex = s.freeIndex ∧ (s.serviceReadEnds c).pending = s.pending := by
  unfold State.serviceReadEnds
  try dsimp only
  (repeat' split) <;> simp

@[simp] theorem State.serviceReadEnds_grows (s : State) (c : CurrentFlash) {old : PathUnit} (h : Grows old s.path) :
    Grows old (s.serviceReadEnds c).path := by
  unfold State.serviceReadEnds
  try dsimp only
  (repeat' split) <;> simp (maxDischargeDepth := 40) [h]

/-- Changes at most the RFC, the handed groups. -/
@[simp] theorem State.serviceReadMoves_frame (s : State) (o : FlashOp) (m : Nat) (p b : List Byte) :
    (s.serviceReadMoves o m p b).run = s.run ∧ (s.serviceReadMoves o m p b).path.still = s.path.still ∧
    (s.serviceReadMoves o m p b).prof = s.prof ∧ (s.serviceReadMoves o m p b).tooth = s.tooth ∧
    (s.serviceReadMoves o m p b).scan = s.scan ∧ (s.serviceReadMoves o m p b).motion = s.motion ∧
    (s.serviceReadMoves o m p b).sup = s.sup ∧ (s.serviceReadMoves o m p b).rbc = s.rbc ∧ (s.serviceReadMoves o m p b).ent = s.ent ∧
    (s.serviceReadMoves o m p b).vlu = s.vlu ∧ (s.serviceReadMoves o m p b).mem = s.mem ∧
    (s.serviceReadMoves o m p b).freeIndex = s.freeIndex ∧ (s.serviceReadMoves o m p b).pending = s.pending := by
  unfold State.serviceReadMoves
  try dsimp only
  (repeat' split) <;> simp

@[simp] theorem State.serviceReadMoves_grows (s : State) (o : FlashOp) (m : Nat) (p b : List Byte) {old : PathUnit} (h : Grows old s.path) :
    Grows old (s.serviceReadMoves o m p b).path := by
  unfold State.serviceReadMoves
  try dsimp only
  (repeat' split) <;> simp (maxDischargeDepth := 40) [h]

/-- Changes at most the RFC, the handed groups. -/
@[simp] theorem State.programWord_frame (s : State) (g i : Nat) (w : Word) :
    (s.programWord g i w).run = s.run ∧ (s.programWord g i w).path.still = s.path.still ∧
    (s.programWord g i w).prof = s.prof ∧ (s.programWord g i w).tooth = s.tooth ∧
    (s.programWord g i w).scan = s.scan ∧ (s.programWord g i w).motion = s.motion ∧
    (s.programWord g i w).sup = s.sup ∧ (s.programWord g i w).rbc = s.rbc ∧ (s.programWord g i w).ent = s.ent ∧
    (s.programWord g i w).vlu = s.vlu ∧ (s.programWord g i w).mem = s.mem ∧
    (s.programWord g i w).freeIndex = s.freeIndex ∧ (s.programWord g i w).pending = s.pending := by
  unfold State.programWord
  try dsimp only
  (repeat' split) <;> simp

@[simp] theorem State.programWord_grows (s : State) (g i : Nat) (w : Word) {old : PathUnit} (h : Grows old s.path) :
    Grows old (s.programWord g i w).path := by
  unfold State.programWord
  try dsimp only
  (repeat' split) <;> simp (maxDischargeDepth := 40) [h]

/-- Changes at most the RFC, the Profile Unit, the Motion Unit, the handed groups. -/
@[simp] theorem State.closeFlash_frame (s : State) (c : CurrentFlash) (r : ResultCode) :
    (s.closeFlash c r).run = s.run ∧ (s.closeFlash c r).path.still = s.path.still ∧
    (s.closeFlash c r).tooth = s.tooth ∧ (s.closeFlash c r).scan = s.scan ∧ (s.closeFlash c r).sup = s.sup ∧
    (s.closeFlash c r).rbc = s.rbc ∧ (s.closeFlash c r).ent = s.ent ∧ (s.closeFlash c r).vlu = s.vlu ∧
    (s.closeFlash c r).mem = s.mem ∧ (s.closeFlash c r).freeIndex = s.freeIndex ∧
    (s.closeFlash c r).pending = s.pending := by
  unfold State.closeFlash
  try dsimp only
  (repeat' split) <;> simp

@[simp] theorem State.closeFlash_grows (s : State) (c : CurrentFlash) (r : ResultCode) {old : PathUnit} (h : Grows old s.path) :
    Grows old (s.closeFlash c r).path := by
  unfold State.closeFlash
  try dsimp only
  (repeat' split) <;> simp (maxDischargeDepth := 40) [h]

/-- Changes at most the RFC, the Profile Unit, the Motion Unit, the handed groups. -/
@[simp] theorem State.pollEnds_frame (s : State) (c : CurrentFlash) (b : Byte) :
    (s.pollEnds c b).run = s.run ∧ (s.pollEnds c b).path.still = s.path.still ∧ (s.pollEnds c b).tooth = s.tooth ∧
    (s.pollEnds c b).scan = s.scan ∧ (s.pollEnds c b).sup = s.sup ∧ (s.pollEnds c b).rbc = s.rbc ∧
    (s.pollEnds c b).ent = s.ent ∧ (s.pollEnds c b).vlu = s.vlu ∧ (s.pollEnds c b).mem = s.mem ∧
    (s.pollEnds c b).freeIndex = s.freeIndex ∧ (s.pollEnds c b).pending = s.pending := by
  unfold State.pollEnds
  try dsimp only
  (repeat' split) <;> simp

@[simp] theorem State.pollEnds_grows (s : State) (c : CurrentFlash) (b : Byte) {old : PathUnit} (h : Grows old s.path) :
    Grows old (s.pollEnds c b).path := by
  unfold State.pollEnds
  try dsimp only
  (repeat' split) <;> simp (maxDischargeDepth := 40) [h]

/-- Changes at most the RFC, the handed groups. -/
@[simp] theorem State.currentAtCcr_frame (s : State) :
    s.currentAtCcr.run = s.run ∧ s.currentAtCcr.path.still = s.path.still ∧
    s.currentAtCcr.prof = s.prof ∧ s.currentAtCcr.tooth = s.tooth ∧ s.currentAtCcr.scan = s.scan ∧
    s.currentAtCcr.motion = s.motion ∧ s.currentAtCcr.sup = s.sup ∧ s.currentAtCcr.rbc = s.rbc ∧
    s.currentAtCcr.ent = s.ent ∧ s.currentAtCcr.vlu = s.vlu ∧ s.currentAtCcr.mem = s.mem ∧
    s.currentAtCcr.freeIndex = s.freeIndex ∧ s.currentAtCcr.pending = s.pending := by
  unfold State.currentAtCcr
  try dsimp only
  (repeat' split) <;> simp

@[simp] theorem State.currentAtCcr_grows (s : State) {old : PathUnit} (h : Grows old s.path) :
    Grows old s.currentAtCcr.path := by
  unfold State.currentAtCcr
  try dsimp only
  (repeat' split) <;> simp (maxDischargeDepth := 40) [h]

/-- Changes at most the RFC, the Profile Unit, the handed groups. -/
@[simp] theorem State.rfcAtCcr_frame (s : State) :
    s.rfcAtCcr.run = s.run ∧ s.rfcAtCcr.path.still = s.path.still ∧ s.rfcAtCcr.tooth = s.tooth ∧
    s.rfcAtCcr.scan = s.scan ∧ s.rfcAtCcr.motion = s.motion ∧ s.rfcAtCcr.sup = s.sup ∧
    s.rfcAtCcr.rbc = s.rbc ∧ s.rfcAtCcr.ent = s.ent ∧ s.rfcAtCcr.vlu = s.vlu ∧
    s.rfcAtCcr.mem = s.mem ∧ s.rfcAtCcr.freeIndex = s.freeIndex ∧ s.rfcAtCcr.pending = s.pending := by
  unfold State.rfcAtCcr
  try dsimp only
  (repeat' split) <;> simp

@[simp] theorem State.rfcAtCcr_grows (s : State) {old : PathUnit} (h : Grows old s.path) :
    Grows old s.rfcAtCcr.path := by
  unfold State.rfcAtCcr
  try dsimp only
  (repeat' split) <;> simp (maxDischargeDepth := 40) [h]

/-- Changes at most the Supervisor, the RBC, the handed groups. -/
@[simp] theorem State.evaluate_frame (s : State) (cs : List Cause) :
    (s.evaluate cs).run = s.run ∧ (s.evaluate cs).path.still = s.path.still ∧ (s.evaluate cs).rfc = s.rfc ∧
    (s.evaluate cs).prof = s.prof ∧ (s.evaluate cs).tooth = s.tooth ∧ (s.evaluate cs).scan = s.scan ∧
    (s.evaluate cs).motion = s.motion ∧ (s.evaluate cs).ent = s.ent ∧ (s.evaluate cs).vlu = s.vlu ∧
    (s.evaluate cs).mem = s.mem ∧ (s.evaluate cs).freeIndex = s.freeIndex ∧ (s.evaluate cs).pending = s.pending := by
  unfold State.evaluate
  try dsimp only
  (repeat' split) <;> simp

@[simp] theorem State.evaluate_grows (s : State) (cs : List Cause) {old : PathUnit} (h : Grows old s.path) :
    Grows old (s.evaluate cs).path := by
  unfold State.evaluate
  try dsimp only
  (repeat' split) <;> simp (maxDischargeDepth := 40) [h]

/-- Changes at most the valley link, the handed groups. -/
@[simp] theorem State.entersShadow_frame (s : State) (a n : Nat) :
    (s.entersShadow a n).run = s.run ∧ (s.entersShadow a n).path.still = s.path.still ∧
    (s.entersShadow a n).rfc = s.rfc ∧ (s.entersShadow a n).prof = s.prof ∧ (s.entersShadow a n).tooth = s.tooth ∧
    (s.entersShadow a n).scan = s.scan ∧ (s.entersShadow a n).motion = s.motion ∧ (s.entersShadow a n).sup = s.sup ∧
    (s.entersShadow a n).rbc = s.rbc ∧ (s.entersShadow a n).ent = s.ent ∧ (s.entersShadow a n).mem = s.mem ∧
    (s.entersShadow a n).freeIndex = s.freeIndex ∧ (s.entersShadow a n).pending = s.pending := by
  unfold State.entersShadow
  try dsimp only
  (repeat' split) <;> simp

@[simp] theorem State.entersShadow_grows (s : State) (a n : Nat) {old : PathUnit} (h : Grows old s.path) :
    Grows old (s.entersShadow a n).path := by
  unfold State.entersShadow
  try dsimp only
  (repeat' split) <;> simp (maxDischargeDepth := 40) [h]

/-- Changes at most the valley link. -/
@[simp] theorem State.leavesShadow_frame (s : State) :
    s.leavesShadow.run = s.run ∧ s.leavesShadow.path = s.path ∧ s.leavesShadow.rfc = s.rfc ∧
    s.leavesShadow.prof = s.prof ∧ s.leavesShadow.tooth = s.tooth ∧ s.leavesShadow.scan = s.scan ∧
    s.leavesShadow.motion = s.motion ∧ s.leavesShadow.sup = s.sup ∧ s.leavesShadow.rbc = s.rbc ∧
    s.leavesShadow.ent = s.ent ∧ s.leavesShadow.mem = s.mem ∧ s.leavesShadow.freeIndex = s.freeIndex ∧
    s.leavesShadow.pending = s.pending := by
  unfold State.leavesShadow
  try dsimp only
  (repeat' split) <;> simp

/-- Changes at most the valley link, the handed groups. -/
@[simp] theorem State.judgeShadow_frame (s : State) :
    s.judgeShadow.run = s.run ∧ s.judgeShadow.path.still = s.path.still ∧ s.judgeShadow.rfc = s.rfc ∧
    s.judgeShadow.prof = s.prof ∧ s.judgeShadow.tooth = s.tooth ∧ s.judgeShadow.scan = s.scan ∧
    s.judgeShadow.motion = s.motion ∧ s.judgeShadow.sup = s.sup ∧ s.judgeShadow.rbc = s.rbc ∧
    s.judgeShadow.ent = s.ent ∧ s.judgeShadow.mem = s.mem ∧ s.judgeShadow.freeIndex = s.freeIndex ∧
    s.judgeShadow.pending = s.pending := by
  unfold State.judgeShadow
  try dsimp only
  (repeat' split) <;> simp

@[simp] theorem State.judgeShadow_grows (s : State) {old : PathUnit} (h : Grows old s.path) :
    Grows old s.judgeShadow.path := by
  unfold State.judgeShadow
  try dsimp only
  (repeat' split) <;> simp (maxDischargeDepth := 40) [h]

/-- Changes at most the valley link, the Supervisor, the RBC, the entrances, the RFC, the handed groups. -/
@[simp] theorem State.react_frame (s b : State) (cs : List Cause) (g : Bool) :
    (s.react b cs g).run = s.run ∧ (s.react b cs g).path.still = s.path.still ∧ (s.react b cs g).prof = s.prof ∧
    (s.react b cs g).tooth = s.tooth ∧ (s.react b cs g).scan = s.scan ∧ (s.react b cs g).motion = s.motion ∧
    (s.react b cs g).mem = s.mem ∧ (s.react b cs g).freeIndex = s.freeIndex ∧ (s.react b cs g).pending = s.pending := by
  unfold State.react
  try dsimp only
  (repeat' split) <;> simp

@[simp] theorem State.react_grows (s b : State) (cs : List Cause) (g : Bool) {old : PathUnit} (h : Grows old s.path) :
    Grows old (s.react b cs g).path := by
  unfold State.react
  try dsimp only
  (repeat' split) <;> simp (maxDischargeDepth := 40) [h]

end Sys2Proof.Machine
end

