-- ==== Sys2Proof/Laws/Field.lean ====
section
/-! SUPPORT. What each operation of the scan, the valley link and the tooth channels leaves as it was (chapters 3, 4 and 8). -/

namespace Sys2Proof.Machine

/-- Changes at most the scan unit. -/
@[simp] theorem State.convertScan_frame (s : State) (c : Source) :
    (s.convertScan c).run = s.run ∧ (s.convertScan c).path = s.path ∧ (s.convertScan c).rfc = s.rfc ∧
    (s.convertScan c).prof = s.prof ∧ (s.convertScan c).tooth = s.tooth ∧ (s.convertScan c).motion = s.motion ∧
    (s.convertScan c).sup = s.sup ∧ (s.convertScan c).rbc = s.rbc ∧ (s.convertScan c).ent = s.ent ∧
    (s.convertScan c).vlu = s.vlu ∧ (s.convertScan c).mem = s.mem ∧ (s.convertScan c).freeIndex = s.freeIndex ∧
    (s.convertScan c).pending = s.pending := by
  unfold State.convertScan
  try dsimp only
  (repeat' split) <;> simp

/-- Changes at most the scan unit. -/
@[simp] theorem State.nextConversion_frame (s : State) :
    s.nextConversion.run = s.run ∧ s.nextConversion.path = s.path ∧ s.nextConversion.rfc = s.rfc ∧
    s.nextConversion.prof = s.prof ∧ s.nextConversion.tooth = s.tooth ∧ s.nextConversion.motion = s.motion ∧
    s.nextConversion.sup = s.sup ∧ s.nextConversion.rbc = s.rbc ∧ s.nextConversion.ent = s.ent ∧
    s.nextConversion.vlu = s.vlu ∧ s.nextConversion.mem = s.mem ∧ s.nextConversion.freeIndex = s.freeIndex ∧
    s.nextConversion.pending = s.pending := by
  unfold State.nextConversion
  try dsimp only
  (repeat' split) <;> simp

/-- Changes at most the scan unit. -/
@[simp] theorem State.startScanning_frame (s : State) :
    s.startScanning.run = s.run ∧ s.startScanning.path = s.path ∧ s.startScanning.rfc = s.rfc ∧
    s.startScanning.prof = s.prof ∧ s.startScanning.tooth = s.tooth ∧ s.startScanning.motion = s.motion ∧
    s.startScanning.sup = s.sup ∧ s.startScanning.rbc = s.rbc ∧ s.startScanning.ent = s.ent ∧
    s.startScanning.vlu = s.vlu ∧ s.startScanning.mem = s.mem ∧ s.startScanning.freeIndex = s.freeIndex ∧
    s.startScanning.pending = s.pending := by
  unfold State.startScanning
  try dsimp only
  (repeat' split) <;> simp

/-- Changes at most the scan unit. -/
@[simp] theorem State.startScan_frame (s : State) :
    s.startScan.run = s.run ∧ s.startScan.path = s.path ∧ s.startScan.rfc = s.rfc ∧ s.startScan.prof = s.prof ∧
    s.startScan.tooth = s.tooth ∧ s.startScan.motion = s.motion ∧ s.startScan.sup = s.sup ∧ s.startScan.rbc = s.rbc ∧
    s.startScan.ent = s.ent ∧ s.startScan.vlu = s.vlu ∧ s.startScan.mem = s.mem ∧
    s.startScan.freeIndex = s.freeIndex ∧ s.startScan.pending = s.pending := by
  unfold State.startScan
  try dsimp only
  (repeat' split) <;> simp

/-- Changes at most the scan unit, the handed groups. -/
@[simp] theorem State.judgeCheck_frame (s : State) (c : Source) (n : Nat) :
    (s.judgeCheck c n).2.run = s.run ∧ (s.judgeCheck c n).2.path.still = s.path.still ∧
    (s.judgeCheck c n).2.rfc = s.rfc ∧ (s.judgeCheck c n).2.prof = s.prof ∧ (s.judgeCheck c n).2.tooth = s.tooth ∧
    (s.judgeCheck c n).2.motion = s.motion ∧ (s.judgeCheck c n).2.sup = s.sup ∧ (s.judgeCheck c n).2.rbc = s.rbc ∧
    (s.judgeCheck c n).2.ent = s.ent ∧ (s.judgeCheck c n).2.vlu = s.vlu ∧ (s.judgeCheck c n).2.mem = s.mem ∧
    (s.judgeCheck c n).2.freeIndex = s.freeIndex ∧ (s.judgeCheck c n).2.pending = s.pending := by
  unfold State.judgeCheck
  try dsimp only
  (repeat' split) <;> simp

@[simp] theorem State.judgeCheck_grows (s : State) (c : Source) (n : Nat) {old : PathUnit} (h : Grows old s.path) :
    Grows old (s.judgeCheck c n).2.path := by
  unfold State.judgeCheck
  try dsimp only
  (repeat' split) <;> simp (maxDischargeDepth := 40) [h]

/-- Changes at most the handed groups. -/
@[simp] theorem State.limitNotice_frame (s : State) (c : Source) (o n : LimitState) (x : Int) :
    (s.limitNotice c o n x).run = s.run ∧ (s.limitNotice c o n x).path.still = s.path.still ∧
    (s.limitNotice c o n x).rfc = s.rfc ∧ (s.limitNotice c o n x).prof = s.prof ∧
    (s.limitNotice c o n x).tooth = s.tooth ∧ (s.limitNotice c o n x).scan = s.scan ∧
    (s.limitNotice c o n x).motion = s.motion ∧ (s.limitNotice c o n x).sup = s.sup ∧
    (s.limitNotice c o n x).rbc = s.rbc ∧ (s.limitNotice c o n x).ent = s.ent ∧ (s.limitNotice c o n x).vlu = s.vlu ∧
    (s.limitNotice c o n x).mem = s.mem ∧ (s.limitNotice c o n x).freeIndex = s.freeIndex ∧
    (s.limitNotice c o n x).pending = s.pending := by
  unfold State.limitNotice
  try dsimp only
  (repeat' split) <;> simp

@[simp] theorem State.limitNotice_grows (s : State) (c : Source) (o n : LimitState) (x : Int) {old : PathUnit} (h : Grows old s.path) :
    Grows old (s.limitNotice c o n x).path := by
  unfold State.limitNotice
  try dsimp only
  (repeat' split) <;> simp (maxDischargeDepth := 40) [h]

/-- Changes at most the scan unit, the handed groups. -/
@[simp] theorem State.phValue_frame (s : State) (x : Int) :
    (s.phValue x).run = s.run ∧ (s.phValue x).path.still = s.path.still ∧ (s.phValue x).rfc = s.rfc ∧
    (s.phValue x).prof = s.prof ∧ (s.phValue x).tooth = s.tooth ∧ (s.phValue x).motion = s.motion ∧
    (s.phValue x).sup = s.sup ∧ (s.phValue x).rbc = s.rbc ∧ (s.phValue x).ent = s.ent ∧ (s.phValue x).vlu = s.vlu ∧
    (s.phValue x).mem = s.mem ∧ (s.phValue x).freeIndex = s.freeIndex ∧ (s.phValue x).pending = s.pending := by
  unfold State.phValue
  try dsimp only
  (repeat' split) <;> simp

@[simp] theorem State.phValue_grows (s : State) (x : Int) {old : PathUnit} (h : Grows old s.path) :
    Grows old (s.phValue x).path := by
  unfold State.phValue
  try dsimp only
  (repeat' split) <;> simp (maxDischargeDepth := 40) [h]

/-- Changes at most the scan unit, the handed groups. -/
@[simp] theorem State.vsValue_frame (s : State) (x : Int) :
    (s.vsValue x).2.run = s.run ∧ (s.vsValue x).2.path.still = s.path.still ∧ (s.vsValue x).2.rfc = s.rfc ∧
    (s.vsValue x).2.prof = s.prof ∧ (s.vsValue x).2.tooth = s.tooth ∧ (s.vsValue x).2.motion = s.motion ∧
    (s.vsValue x).2.sup = s.sup ∧ (s.vsValue x).2.rbc = s.rbc ∧ (s.vsValue x).2.ent = s.ent ∧
    (s.vsValue x).2.vlu = s.vlu ∧ (s.vsValue x).2.mem = s.mem ∧ (s.vsValue x).2.freeIndex = s.freeIndex ∧
    (s.vsValue x).2.pending = s.pending := by
  unfold State.vsValue
  try dsimp only
  (repeat' split) <;> simp

@[simp] theorem State.vsValue_grows (s : State) (x : Int) {old : PathUnit} (h : Grows old s.path) :
    Grows old (s.vsValue x).2.path := by
  unfold State.vsValue
  try dsimp only
  (repeat' split) <;> simp (maxDischargeDepth := 40) [h]

/-- Changes at most the scan unit, the handed groups. -/
@[simp] theorem State.scanEnds_frame (s : State) :
    s.scanEnds.run = s.run ∧ s.scanEnds.path.still = s.path.still ∧ s.scanEnds.rfc = s.rfc ∧
    s.scanEnds.prof = s.prof ∧ s.scanEnds.tooth = s.tooth ∧ s.scanEnds.motion = s.motion ∧ s.scanEnds.sup = s.sup ∧
    s.scanEnds.rbc = s.rbc ∧ s.scanEnds.ent = s.ent ∧ s.scanEnds.vlu = s.vlu ∧ s.scanEnds.mem = s.mem ∧
    s.scanEnds.freeIndex = s.freeIndex ∧ s.scanEnds.pending = s.pending := by
  unfold State.scanEnds
  try dsimp only
  (repeat' split) <;> simp

@[simp] theorem State.scanEnds_grows (s : State) {old : PathUnit} (h : Grows old s.path) :
    Grows old s.scanEnds.path := by
  unfold State.scanEnds
  try dsimp only
  (repeat' split) <;> simp (maxDischargeDepth := 40) [h]

/-- Changes at most the scan unit, the RBC, the Motion Unit, the handed groups. -/
@[simp] theorem State.handValue_frame (s : State) (c : Source) (x : Int) :
    (s.handValue c x).2.run = s.run ∧ (s.handValue c x).2.path.still = s.path.still ∧
    (s.handValue c x).2.rfc = s.rfc ∧ (s.handValue c x).2.prof = s.prof ∧ (s.handValue c x).2.tooth = s.tooth ∧
    (s.handValue c x).2.sup = s.sup ∧ (s.handValue c x).2.ent = s.ent ∧ (s.handValue c x).2.vlu = s.vlu ∧
    (s.handValue c x).2.mem = s.mem ∧ (s.handValue c x).2.freeIndex = s.freeIndex ∧
    (s.handValue c x).2.pending = s.pending := by
  unfold State.handValue
  try dsimp only
  (repeat' split) <;> simp

@[simp] theorem State.handValue_grows (s : State) (c : Source) (x : Int) {old : PathUnit} (h : Grows old s.path) :
    Grows old (s.handValue c x).2.path := by
  unfold State.handValue
  try dsimp only
  (repeat' split) <;> simp (maxDischargeDepth := 40) [h]

/-- Changes at most the scan unit, the RBC, the Motion Unit, the handed groups. -/
@[simp] theorem State.fieldValue_frame (s : State) (c : Source) (x : Int) :
    (s.fieldValue c x).2.run = s.run ∧ (s.fieldValue c x).2.path.still = s.path.still ∧
    (s.fieldValue c x).2.rfc = s.rfc ∧ (s.fieldValue c x).2.prof = s.prof ∧ (s.fieldValue c x).2.tooth = s.tooth ∧
    (s.fieldValue c x).2.sup = s.sup ∧ (s.fieldValue c x).2.ent = s.ent ∧ (s.fieldValue c x).2.vlu = s.vlu ∧
    (s.fieldValue c x).2.mem = s.mem ∧ (s.fieldValue c x).2.freeIndex = s.freeIndex ∧
    (s.fieldValue c x).2.pending = s.pending := by
  unfold State.fieldValue
  try dsimp only
  (repeat' split) <;> simp

@[simp] theorem State.fieldValue_grows (s : State) (c : Source) (x : Int) {old : PathUnit} (h : Grows old s.path) :
    Grows old (s.fieldValue c x).2.path := by
  unfold State.fieldValue
  try dsimp only
  (repeat' split) <;> simp (maxDischargeDepth := 40) [h]

/-- Changes at most the scan unit, the handed groups. -/
@[simp] theorem State.finishSpot_frame (s : State) (x : Spot) :
    (s.finishSpot x).run = s.run ∧ (s.finishSpot x).path.still = s.path.still ∧ (s.finishSpot x).rfc = s.rfc ∧
    (s.finishSpot x).prof = s.prof ∧ (s.finishSpot x).tooth = s.tooth ∧ (s.finishSpot x).motion = s.motion ∧
    (s.finishSpot x).sup = s.sup ∧ (s.finishSpot x).rbc = s.rbc ∧ (s.finishSpot x).ent = s.ent ∧
    (s.finishSpot x).vlu = s.vlu ∧ (s.finishSpot x).mem = s.mem ∧ (s.finishSpot x).freeIndex = s.freeIndex ∧
    (s.finishSpot x).pending = s.pending := by
  unfold State.finishSpot
  try dsimp only
  (repeat' split) <;> simp

@[simp] theorem State.finishSpot_grows (s : State) (x : Spot) {old : PathUnit} (h : Grows old s.path) :
    Grows old (s.finishSpot x).path := by
  unfold State.finishSpot
  try dsimp only
  (repeat' split) <;> simp (maxDischargeDepth := 40) [h]

/-- Changes at most the scan unit, the handed groups. -/
@[simp] theorem State.spotValue_frame (s : State) (k : Slot) (v : Int) (n : Nat) :
    (s.spotValue k v n).run = s.run ∧ (s.spotValue k v n).path.still = s.path.still ∧
    (s.spotValue k v n).rfc = s.rfc ∧ (s.spotValue k v n).prof = s.prof ∧ (s.spotValue k v n).tooth = s.tooth ∧
    (s.spotValue k v n).motion = s.motion ∧ (s.spotValue k v n).sup = s.sup ∧ (s.spotValue k v n).rbc = s.rbc ∧
    (s.spotValue k v n).ent = s.ent ∧ (s.spotValue k v n).vlu = s.vlu ∧ (s.spotValue k v n).mem = s.mem ∧
    (s.spotValue k v n).freeIndex = s.freeIndex ∧ (s.spotValue k v n).pending = s.pending := by
  unfold State.spotValue
  try dsimp only
  (repeat' split) <;> simp

@[simp] theorem State.spotValue_grows (s : State) (k : Slot) (v : Int) (n : Nat) {old : PathUnit} (h : Grows old s.path) :
    Grows old (s.spotValue k v n).path := by
  unfold State.spotValue
  try dsimp only
  (repeat' split) <;> simp (maxDischargeDepth := 40) [h]

/-- Changes at most the scan unit, the handed groups. -/
@[simp] theorem State.measure_frame (s : State) (k : Slot) (r : SlotRec) :
    (s.measure k r).run = s.run ∧ (s.measure k r).path.still = s.path.still ∧ (s.measure k r).rfc = s.rfc ∧
    (s.measure k r).prof = s.prof ∧ (s.measure k r).tooth = s.tooth ∧ (s.measure k r).motion = s.motion ∧
    (s.measure k r).sup = s.sup ∧ (s.measure k r).rbc = s.rbc ∧ (s.measure k r).ent = s.ent ∧
    (s.measure k r).vlu = s.vlu ∧ (s.measure k r).mem = s.mem ∧ (s.measure k r).freeIndex = s.freeIndex ∧
    (s.measure k r).pending = s.pending := by
  unfold State.measure
  try dsimp only
  (repeat' split) <;> simp

@[simp] theorem State.measure_grows (s : State) (k : Slot) (r : SlotRec) {old : PathUnit} (h : Grows old s.path) :
    Grows old (s.measure k r).path := by
  unfold State.measure
  try dsimp only
  (repeat' split) <;> simp (maxDischargeDepth := 40) [h]

/-- Changes at most the scan unit, the RBC, the Motion Unit, the handed groups. -/
@[simp] theorem State.conversionEnds_frame (s : State) (c : Conversion) (n : Nat) :
    (s.conversionEnds c n).2.run = s.run ∧ (s.conversionEnds c n).2.path.still = s.path.still ∧
    (s.conversionEnds c n).2.rfc = s.rfc ∧ (s.conversionEnds c n).2.prof = s.prof ∧
    (s.conversionEnds c n).2.tooth = s.tooth ∧ (s.conversionEnds c n).2.sup = s.sup ∧
    (s.conversionEnds c n).2.ent = s.ent ∧ (s.conversionEnds c n).2.vlu = s.vlu ∧
    (s.conversionEnds c n).2.mem = s.mem ∧ (s.conversionEnds c n).2.freeIndex = s.freeIndex ∧
    (s.conversionEnds c n).2.pending = s.pending := by
  unfold State.conversionEnds
  try dsimp only
  (repeat' split) <;> simp

@[simp] theorem State.conversionEnds_grows (s : State) (c : Conversion) (n : Nat) {old : PathUnit} (h : Grows old s.path) :
    Grows old (s.conversionEnds c n).2.path := by
  unfold State.conversionEnds
  try dsimp only
  (repeat' split) <;> simp (maxDischargeDepth := 40) [h]

/-- Spot requests completed one after another at the entry to STABLED. -/
theorem finishSpots_frame (xs : List Spot) (s : State) :
    (xs.foldl (fun u x => u.complete x.slot .ok (x.results .notChecked)) s).run = s.run ∧
    (xs.foldl (fun u x => u.complete x.slot .ok (x.results .notChecked)) s).path.still = s.path.still ∧
    (xs.foldl (fun u x => u.complete x.slot .ok (x.results .notChecked)) s).rfc = s.rfc ∧
    (xs.foldl (fun u x => u.complete x.slot .ok (x.results .notChecked)) s).prof = s.prof ∧
    (xs.foldl (fun u x => u.complete x.slot .ok (x.results .notChecked)) s).tooth = s.tooth ∧
    (xs.foldl (fun u x => u.complete x.slot .ok (x.results .notChecked)) s).scan = s.scan ∧
    (xs.foldl (fun u x => u.complete x.slot .ok (x.results .notChecked)) s).motion = s.motion ∧
    (xs.foldl (fun u x => u.complete x.slot .ok (x.results .notChecked)) s).sup = s.sup ∧
    (xs.foldl (fun u x => u.complete x.slot .ok (x.results .notChecked)) s).rbc = s.rbc ∧
    (xs.foldl (fun u x => u.complete x.slot .ok (x.results .notChecked)) s).ent = s.ent ∧
    (xs.foldl (fun u x => u.complete x.slot .ok (x.results .notChecked)) s).vlu = s.vlu ∧
    (xs.foldl (fun u x => u.complete x.slot .ok (x.results .notChecked)) s).mem = s.mem ∧
    (xs.foldl (fun u x => u.complete x.slot .ok (x.results .notChecked)) s).freeIndex = s.freeIndex ∧
    (xs.foldl (fun u x => u.complete x.slot .ok (x.results .notChecked)) s).pending = s.pending := by
  induction xs generalizing s with
  | nil => simp
  | cons x xs ih => simp [ih]

theorem finishSpots_grows (xs : List Spot) (s : State) {p : PathUnit} (h : Grows p s.path) :
    Grows p (xs.foldl (fun u x => u.complete x.slot .ok (x.results .notChecked)) s).path := by
  induction xs generalizing s with
  | nil => simpa using h
  | cons x xs ih => simp (maxDischargeDepth := 40) [ih, h]

/-- Changes at most the scan unit, the handed groups. -/
@[simp] theorem State.scanToStabled_frame (s : State) :
    s.scanToStabled.run = s.run ∧ s.scanToStabled.path.still = s.path.still ∧ s.scanToStabled.rfc = s.rfc ∧
    s.scanToStabled.prof = s.prof ∧ s.scanToStabled.tooth = s.tooth ∧ s.scanToStabled.motion = s.motion ∧
    s.scanToStabled.sup = s.sup ∧ s.scanToStabled.rbc = s.rbc ∧ s.scanToStabled.ent = s.ent ∧
    s.scanToStabled.vlu = s.vlu ∧ s.scanToStabled.mem = s.mem ∧ s.scanToStabled.freeIndex = s.freeIndex ∧
    s.scanToStabled.pending = s.pending := by
  simp [State.scanToStabled, finishSpots_frame]

@[simp] theorem State.scanToStabled_grows (s : State) {old : PathUnit} (h : Grows old s.path) :
    Grows old s.scanToStabled.path := by
  simp (maxDischargeDepth := 40) [State.scanToStabled, finishSpots_grows, h]

/-- Changes at most the scan unit. -/
@[simp] theorem State.scanAtCcr_frame (s : State) :
    s.scanAtCcr.run = s.run ∧ s.scanAtCcr.path = s.path ∧ s.scanAtCcr.rfc = s.rfc ∧ s.scanAtCcr.prof = s.prof ∧
    s.scanAtCcr.tooth = s.tooth ∧ s.scanAtCcr.motion = s.motion ∧ s.scanAtCcr.sup = s.sup ∧ s.scanAtCcr.rbc = s.rbc ∧
    s.scanAtCcr.ent = s.ent ∧ s.scanAtCcr.vlu = s.vlu ∧ s.scanAtCcr.mem = s.mem ∧
    s.scanAtCcr.freeIndex = s.freeIndex ∧ s.scanAtCcr.pending = s.pending := by
  unfold State.scanAtCcr
  try dsimp only
  (repeat' split) <;> simp

/-- Changes at most the valley link, the handed groups. -/
@[simp] theorem State.radioLost_frame (s : State) (r : Reason) :
    (s.radioLost r).run = s.run ∧ (s.radioLost r).path.still = s.path.still ∧ (s.radioLost r).rfc = s.rfc ∧
    (s.radioLost r).prof = s.prof ∧ (s.radioLost r).tooth = s.tooth ∧ (s.radioLost r).scan = s.scan ∧
    (s.radioLost r).motion = s.motion ∧ (s.radioLost r).sup = s.sup ∧ (s.radioLost r).rbc = s.rbc ∧
    (s.radioLost r).ent = s.ent ∧ (s.radioLost r).mem = s.mem ∧ (s.radioLost r).freeIndex = s.freeIndex ∧
    (s.radioLost r).pending = s.pending := by
  unfold State.radioLost
  try dsimp only
  (repeat' split) <;> simp

@[simp] theorem State.radioLost_grows (s : State) (r : Reason) {old : PathUnit} (h : Grows old s.path) :
    Grows old (s.radioLost r).path := by
  unfold State.radioLost
  try dsimp only
  (repeat' split) <;> simp (maxDischargeDepth := 40) [h]

/-- Changes at most the valley link, the free-value counter. -/
@[simp] theorem State.radioHeard_frame (s : State) :
    s.radioHeard.run = s.run ∧ s.radioHeard.path = s.path ∧ s.radioHeard.rfc = s.rfc ∧ s.radioHeard.prof = s.prof ∧
    s.radioHeard.tooth = s.tooth ∧ s.radioHeard.scan = s.scan ∧ s.radioHeard.motion = s.motion ∧
    s.radioHeard.sup = s.sup ∧ s.radioHeard.rbc = s.rbc ∧ s.radioHeard.ent = s.ent ∧ s.radioHeard.mem = s.mem ∧
    s.radioHeard.pending = s.pending := by
  unfold State.radioHeard
  try dsimp only
  (repeat' split) <;> simp

/-- Changes at most the valley link, the free-value counter, the handed groups. -/
@[simp] theorem State.frameHeard_frame (s : State) :
    s.frameHeard.run = s.run ∧ s.frameHeard.path.still = s.path.still ∧ s.frameHeard.rfc = s.rfc ∧
    s.frameHeard.prof = s.prof ∧ s.frameHeard.tooth = s.tooth ∧ s.frameHeard.scan = s.scan ∧
    s.frameHeard.motion = s.motion ∧ s.frameHeard.sup = s.sup ∧ s.frameHeard.rbc = s.rbc ∧ s.frameHeard.ent = s.ent ∧
    s.frameHeard.mem = s.mem ∧ s.frameHeard.pending = s.pending := by
  unfold State.frameHeard
  try dsimp only
  (repeat' split) <;> simp

@[simp] theorem State.frameHeard_grows (s : State) {old : PathUnit} (h : Grows old s.path) :
    Grows old s.frameHeard.path := by
  unfold State.frameHeard
  try dsimp only
  (repeat' split) <;> simp (maxDischargeDepth := 40) [h]

/-- Changes at most the valley link, the handed groups. -/
@[simp] theorem State.queueReceipt_frame (s : State) (r : Receipt) :
    (s.queueReceipt r).run = s.run ∧ (s.queueReceipt r).path.still = s.path.still ∧ (s.queueReceipt r).rfc = s.rfc ∧
    (s.queueReceipt r).prof = s.prof ∧ (s.queueReceipt r).tooth = s.tooth ∧ (s.queueReceipt r).scan = s.scan ∧
    (s.queueReceipt r).motion = s.motion ∧ (s.queueReceipt r).sup = s.sup ∧ (s.queueReceipt r).rbc = s.rbc ∧
    (s.queueReceipt r).ent = s.ent ∧ (s.queueReceipt r).mem = s.mem ∧ (s.queueReceipt r).freeIndex = s.freeIndex ∧
    (s.queueReceipt r).pending = s.pending := by
  unfold State.queueReceipt
  try dsimp only
  (repeat' split) <;> simp

@[simp] theorem State.queueReceipt_grows (s : State) (r : Receipt) {old : PathUnit} (h : Grows old s.path) :
    Grows old (s.queueReceipt r).path := by
  unfold State.queueReceipt
  try dsimp only
  (repeat' split) <;> simp (maxDischargeDepth := 40) [h]

/-- Changes at most the valley link, the handed groups. -/
@[simp] theorem State.setRestriction_frame (s : State) (r : Restriction) :
    (s.setRestriction r).2.run = s.run ∧ (s.setRestriction r).2.path.still = s.path.still ∧
    (s.setRestriction r).2.rfc = s.rfc ∧ (s.setRestriction r).2.prof = s.prof ∧
    (s.setRestriction r).2.tooth = s.tooth ∧ (s.setRestriction r).2.scan = s.scan ∧
    (s.setRestriction r).2.motion = s.motion ∧ (s.setRestriction r).2.sup = s.sup ∧
    (s.setRestriction r).2.rbc = s.rbc ∧ (s.setRestriction r).2.ent = s.ent ∧ (s.setRestriction r).2.mem = s.mem ∧
    (s.setRestriction r).2.freeIndex = s.freeIndex ∧ (s.setRestriction r).2.pending = s.pending := by
  unfold State.setRestriction
  try dsimp only
  (repeat' split) <;> simp

@[simp] theorem State.setRestriction_grows (s : State) (r : Restriction) {old : PathUnit} (h : Grows old s.path) :
    Grows old (s.setRestriction r).2.path := by
  unfold State.setRestriction
  try dsimp only
  (repeat' split) <;> simp (maxDischargeDepth := 40) [h]

/-- Changes at most the valley link. -/
@[simp] theorem State.liftRestriction_frame (s : State) (i : Nat) :
    (s.liftRestriction i).2.run = s.run ∧ (s.liftRestriction i).2.path = s.path ∧
    (s.liftRestriction i).2.rfc = s.rfc ∧ (s.liftRestriction i).2.prof = s.prof ∧
    (s.liftRestriction i).2.tooth = s.tooth ∧ (s.liftRestriction i).2.scan = s.scan ∧
    (s.liftRestriction i).2.motion = s.motion ∧ (s.liftRestriction i).2.sup = s.sup ∧
    (s.liftRestriction i).2.rbc = s.rbc ∧ (s.liftRestriction i).2.ent = s.ent ∧ (s.liftRestriction i).2.mem = s.mem ∧
    (s.liftRestriction i).2.freeIndex = s.freeIndex ∧ (s.liftRestriction i).2.pending = s.pending := by
  unfold State.liftRestriction
  try dsimp only
  (repeat' split) <;> simp

/-- Changes at most the Motion Unit, the Profile Unit, the waiting fills, the handed groups, the Supervisor, the RBC, the free-value counter. -/
@[simp] theorem State.handAuthority_frame (s : State) (c : LoopSel) (a : Option (Nat × Track)) :
    (s.handAuthority c a).run = s.run ∧ (s.handAuthority c a).path.still = s.path.still ∧
    (s.handAuthority c a).rfc.still = s.rfc.still ∧ (s.handAuthority c a).tooth = s.tooth ∧
    (s.handAuthority c a).scan = s.scan ∧ (s.handAuthority c a).ent = s.ent ∧ (s.handAuthority c a).vlu = s.vlu ∧
    (s.handAuthority c a).mem = s.mem ∧ (s.handAuthority c a).pending = s.pending := by
  unfold State.handAuthority
  try dsimp only
  (repeat' split) <;> simp

@[simp] theorem State.handAuthority_grows (s : State) (c : LoopSel) (a : Option (Nat × Track)) {old : PathUnit} (h : Grows old s.path) :
    Grows old (s.handAuthority c a).path := by
  unfold State.handAuthority
  try dsimp only
  (repeat' split) <;> simp (maxDischargeDepth := 40) [h]

/-- Changes at most the valley link, the Motion Unit, the Profile Unit, the waiting fills, the handed groups, the Supervisor, the RBC, the free-value counter. -/
@[simp] theorem State.applyFrame_frame (s : State) (x : Frame) :
    (s.applyFrame x).2.2.run = s.run ∧ (s.applyFrame x).2.2.path.still = s.path.still ∧
    (s.applyFrame x).2.2.rfc.still = s.rfc.still ∧ (s.applyFrame x).2.2.tooth = s.tooth ∧
    (s.applyFrame x).2.2.scan = s.scan ∧ (s.applyFrame x).2.2.ent = s.ent ∧ (s.applyFrame x).2.2.mem = s.mem ∧
    (s.applyFrame x).2.2.pending = s.pending := by
  unfold State.applyFrame
  try dsimp only
  (repeat' split) <;> simp

@[simp] theorem State.applyFrame_grows (s : State) (x : Frame) {old : PathUnit} (h : Grows old s.path) :
    Grows old (s.applyFrame x).2.2.path := by
  unfold State.applyFrame
  try dsimp only
  (repeat' split) <;> simp (maxDischargeDepth := 40) [h]

/-- Changes at most the valley link, the handed groups. -/
@[simp] theorem State.handCopy_frame (s : State) (b : Bool) (us : List Half) (t : Time) :
    (s.handCopy b us t).run = s.run ∧ (s.handCopy b us t).path.still = s.path.still ∧
    (s.handCopy b us t).rfc = s.rfc ∧ (s.handCopy b us t).prof = s.prof ∧ (s.handCopy b us t).tooth = s.tooth ∧
    (s.handCopy b us t).scan = s.scan ∧ (s.handCopy b us t).motion = s.motion ∧ (s.handCopy b us t).sup = s.sup ∧
    (s.handCopy b us t).rbc = s.rbc ∧ (s.handCopy b us t).ent = s.ent ∧ (s.handCopy b us t).mem = s.mem ∧
    (s.handCopy b us t).freeIndex = s.freeIndex ∧ (s.handCopy b us t).pending = s.pending := by
  unfold State.handCopy
  try dsimp only
  (repeat' split) <;> simp

@[simp] theorem State.handCopy_grows (s : State) (b : Bool) (us : List Half) (t : Time) {old : PathUnit} (h : Grows old s.path) :
    Grows old (s.handCopy b us t).path := by
  unfold State.handCopy
  try dsimp only
  (repeat' split) <;> simp (maxDischargeDepth := 40) [h]

/-- Changes at most the valley link. -/
@[simp] theorem State.freeStage_frame (s : State) (b : Bool) :
    (s.freeStage b).run = s.run ∧ (s.freeStage b).path = s.path ∧ (s.freeStage b).rfc = s.rfc ∧
    (s.freeStage b).prof = s.prof ∧ (s.freeStage b).tooth = s.tooth ∧ (s.freeStage b).scan = s.scan ∧
    (s.freeStage b).motion = s.motion ∧ (s.freeStage b).sup = s.sup ∧ (s.freeStage b).rbc = s.rbc ∧
    (s.freeStage b).ent = s.ent ∧ (s.freeStage b).mem = s.mem ∧ (s.freeStage b).freeIndex = s.freeIndex ∧
    (s.freeStage b).pending = s.pending := by
  unfold State.freeStage
  try dsimp only
  (repeat' split) <;> simp

/-- Changes at most the valley link, the handed groups. -/
@[simp] theorem State.copyFrame_frame (s : State) (b : Bool) (k : InboundKind) (us : List Half) :
    (s.copyFrame b k us).run = s.run ∧ (s.copyFrame b k us).path.still = s.path.still ∧
    (s.copyFrame b k us).rfc = s.rfc ∧ (s.copyFrame b k us).prof = s.prof ∧ (s.copyFrame b k us).tooth = s.tooth ∧
    (s.copyFrame b k us).scan = s.scan ∧ (s.copyFrame b k us).motion = s.motion ∧ (s.copyFrame b k us).sup = s.sup ∧
    (s.copyFrame b k us).rbc = s.rbc ∧ (s.copyFrame b k us).ent = s.ent ∧ (s.copyFrame b k us).mem = s.mem ∧
    (s.copyFrame b k us).freeIndex = s.freeIndex ∧ (s.copyFrame b k us).pending = s.pending := by
  unfold State.copyFrame
  try dsimp only
  (repeat' split) <;> simp

@[simp] theorem State.copyFrame_grows (s : State) (b : Bool) (k : InboundKind) (us : List Half) {old : PathUnit} (h : Grows old s.path) :
    Grows old (s.copyFrame b k us).path := by
  unfold State.copyFrame
  try dsimp only
  (repeat' split) <;> simp (maxDischargeDepth := 40) [h]

/-- Changes at most the valley link, the handed groups. -/
@[simp] theorem State.payOwed_frame (s : State) (o : Owed) :
    (s.payOwed o).run = s.run ∧
    (s.payOwed o).path.still = s.path.still ∧
    (s.payOwed o).rfc = s.rfc ∧
    (s.payOwed o).prof = s.prof ∧
    (s.payOwed o).tooth = s.tooth ∧
    (s.payOwed o).scan = s.scan ∧
    (s.payOwed o).motion = s.motion ∧
    (s.payOwed o).sup = s.sup ∧
    (s.payOwed o).rbc = s.rbc ∧
    (s.payOwed o).ent = s.ent ∧
    (s.payOwed o).mem = s.mem ∧
    (s.payOwed o).freeIndex = s.freeIndex ∧
    (s.payOwed o).pending = s.pending := by
  unfold State.payOwed
  try dsimp only
  (repeat' split) <;> simp

@[simp] theorem State.payOwed_grows (s : State) (o : Owed) {old : PathUnit} (h : Grows old s.path) :
    Grows old (s.payOwed o).path := by
  unfold State.payOwed
  try dsimp only
  (repeat' split) <;> simp (maxDischargeDepth := 40) [h]

@[simp] theorem Acted.only_state (s : State) : (Acted.only s).state = s := rfl
@[simp] theorem Acted.only_causes (s : State) : (Acted.only s).causes = [] := rfl
@[simp] theorem Acted.only_owed (s : State) : (Acted.only s).owed = none := rfl

/-- Changes at most the valley link, the Motion Unit, the Profile Unit, the waiting fills, the handed groups, the Supervisor, the RBC, the free-value counter. -/
@[simp] theorem State.acceptFrame_frame (s : State) (b : Bool) (k : InboundKind) (x : Frame) (us : List Half) :
    (s.acceptFrame b k x us).state.run = s.run ∧ (s.acceptFrame b k x us).state.path.still = s.path.still ∧
    (s.acceptFrame b k x us).state.rfc.still = s.rfc.still ∧ (s.acceptFrame b k x us).state.tooth = s.tooth ∧
    (s.acceptFrame b k x us).state.scan = s.scan ∧ (s.acceptFrame b k x us).state.ent = s.ent ∧
    (s.acceptFrame b k x us).state.mem = s.mem ∧ (s.acceptFrame b k x us).state.pending = s.pending := by
  unfold State.acceptFrame
  try dsimp only
  (repeat' split) <;> simp

@[simp] theorem State.acceptFrame_grows (s : State) (b : Bool) (k : InboundKind) (x : Frame) (us : List Half) {old : PathUnit} (h : Grows old s.path) :
    Grows old (s.acceptFrame b k x us).state.path := by
  unfold State.acceptFrame
  try dsimp only
  (repeat' split) <;> simp (maxDischargeDepth := 40) [h]

/-- Changes at most the valley link, the handed groups. -/
@[simp] theorem State.repeatFrame_frame (s : State) :
    s.repeatFrame.run = s.run ∧ s.repeatFrame.path.still = s.path.still ∧ s.repeatFrame.rfc = s.rfc ∧
    s.repeatFrame.prof = s.prof ∧ s.repeatFrame.tooth = s.tooth ∧ s.repeatFrame.scan = s.scan ∧
    s.repeatFrame.motion = s.motion ∧ s.repeatFrame.sup = s.sup ∧ s.repeatFrame.rbc = s.rbc ∧
    s.repeatFrame.ent = s.ent ∧ s.repeatFrame.mem = s.mem ∧ s.repeatFrame.freeIndex = s.freeIndex ∧
    s.repeatFrame.pending = s.pending := by
  unfold State.repeatFrame
  try dsimp only
  (repeat' split) <;> simp

@[simp] theorem State.repeatFrame_grows (s : State) {old : PathUnit} (h : Grows old s.path) :
    Grows old s.repeatFrame.path := by
  unfold State.repeatFrame
  try dsimp only
  (repeat' split) <;> simp (maxDischargeDepth := 40) [h]

/-- Changes at most the valley link, the Motion Unit, the Profile Unit, the waiting fills, the handed groups, the Supervisor, the RBC, the free-value counter. -/
@[simp] theorem State.actOnFrame_frame (s : State) (b : Bool) (us : List Half) (p : Bool) :
    (s.actOnFrame b us p).state.run = s.run ∧ (s.actOnFrame b us p).state.path.still = s.path.still ∧
    (s.actOnFrame b us p).state.rfc.still = s.rfc.still ∧ (s.actOnFrame b us p).state.tooth = s.tooth ∧
    (s.actOnFrame b us p).state.scan = s.scan ∧ (s.actOnFrame b us p).state.ent = s.ent ∧
    (s.actOnFrame b us p).state.mem = s.mem ∧ (s.actOnFrame b us p).state.pending = s.pending := by
  unfold State.actOnFrame
  try dsimp only
  (repeat' split) <;> simp

@[simp] theorem State.actOnFrame_grows (s : State) (b : Bool) (us : List Half) (p : Bool) {old : PathUnit} (h : Grows old s.path) :
    Grows old (s.actOnFrame b us p).state.path := by
  unfold State.actOnFrame
  try dsimp only
  (repeat' split) <;> simp (maxDischargeDepth := 40) [h]

/-- A frame made ready is in the valley link only (R153). -/
theorem State.prepareFrame_frame {s t : State} (h : s.prepareFrame = some t) :
    t.run = s.run ∧ t.path = s.path ∧ t.rfc = s.rfc ∧ t.prof = s.prof ∧ t.tooth = s.tooth ∧ t.scan = s.scan ∧
    t.motion = s.motion ∧ t.sup = s.sup ∧ t.rbc = s.rbc ∧ t.ent = s.ent ∧ t.mem = s.mem ∧ t.freeIndex = s.freeIndex ∧
    t.pending = s.pending := by
  unfold State.prepareFrame at h
  dsimp only at h
  (repeat' split at h) <;> first
    | (injection h with h; subst h; simp)
    | exact absurd h (by simp)

/-- Changes at most the valley link. -/
@[simp] theorem State.startReception_frame (s : State) :
    s.startReception.run = s.run ∧ s.startReception.path = s.path ∧ s.startReception.rfc = s.rfc ∧
    s.startReception.prof = s.prof ∧ s.startReception.tooth = s.tooth ∧ s.startReception.scan = s.scan ∧
    s.startReception.motion = s.motion ∧ s.startReception.sup = s.sup ∧ s.startReception.rbc = s.rbc ∧
    s.startReception.ent = s.ent ∧ s.startReception.mem = s.mem ∧ s.startReception.freeIndex = s.freeIndex ∧
    s.startReception.pending = s.pending := by
  unfold State.startReception
  try dsimp only
  (repeat' split) <;> simp

/-- Changes at most the valley link, the handed groups. -/
@[simp] theorem State.linkReset_frame (s : State) :
    s.linkReset.run = s.run ∧ s.linkReset.path.still = s.path.still ∧ s.linkReset.rfc = s.rfc ∧
    s.linkReset.prof = s.prof ∧ s.linkReset.tooth = s.tooth ∧ s.linkReset.scan = s.scan ∧
    s.linkReset.motion = s.motion ∧ s.linkReset.sup = s.sup ∧ s.linkReset.rbc = s.rbc ∧ s.linkReset.ent = s.ent ∧
    s.linkReset.mem = s.mem ∧ s.linkReset.freeIndex = s.freeIndex ∧ s.linkReset.pending = s.pending := by
  unfold State.linkReset
  try dsimp only
  (repeat' split) <;> simp

@[simp] theorem State.linkReset_grows (s : State) {old : PathUnit} (h : Grows old s.path) :
    Grows old s.linkReset.path := by
  unfold State.linkReset
  try dsimp only
  (repeat' split) <;> simp (maxDischargeDepth := 40) [h]

/-- Changes at most the valley link, the handed groups. -/
@[simp] theorem State.conflict_frame (s : State) :
    s.conflict.run = s.run ∧ s.conflict.path.still = s.path.still ∧ s.conflict.rfc = s.rfc ∧
    s.conflict.prof = s.prof ∧ s.conflict.tooth = s.tooth ∧ s.conflict.scan = s.scan ∧ s.conflict.motion = s.motion ∧
    s.conflict.sup = s.sup ∧ s.conflict.rbc = s.rbc ∧ s.conflict.ent = s.ent ∧ s.conflict.mem = s.mem ∧
    s.conflict.freeIndex = s.freeIndex ∧ s.conflict.pending = s.pending := by
  unfold State.conflict
  try dsimp only
  (repeat' split) <;> simp

@[simp] theorem State.conflict_grows (s : State) {old : PathUnit} (h : Grows old s.path) :
    Grows old s.conflict.path := by
  unfold State.conflict
  try dsimp only
  (repeat' split) <;> simp (maxDischargeDepth := 40) [h]

/-- Changes at most the valley link, the handed groups. -/
@[simp] theorem State.yieldLink_frame (s : State) :
    s.yieldLink.run = s.run ∧ s.yieldLink.path.still = s.path.still ∧ s.yieldLink.rfc = s.rfc ∧
    s.yieldLink.prof = s.prof ∧ s.yieldLink.tooth = s.tooth ∧ s.yieldLink.scan = s.scan ∧
    s.yieldLink.motion = s.motion ∧ s.yieldLink.sup = s.sup ∧ s.yieldLink.rbc = s.rbc ∧ s.yieldLink.ent = s.ent ∧
    s.yieldLink.mem = s.mem ∧ s.yieldLink.freeIndex = s.freeIndex ∧ s.yieldLink.pending = s.pending := by
  unfold State.yieldLink
  try dsimp only
  (repeat' split) <;> simp

@[simp] theorem State.yieldLink_grows (s : State) {old : PathUnit} (h : Grows old s.path) :
    Grows old s.yieldLink.path := by
  unfold State.yieldLink
  try dsimp only
  (repeat' split) <;> simp (maxDischargeDepth := 40) [h]

/-- Changes at most the valley link. -/
@[simp] theorem State.endReception_frame (s : State) :
    s.endReception.run = s.run ∧ s.endReception.path = s.path ∧ s.endReception.rfc = s.rfc ∧
    s.endReception.prof = s.prof ∧ s.endReception.tooth = s.tooth ∧ s.endReception.scan = s.scan ∧
    s.endReception.motion = s.motion ∧ s.endReception.sup = s.sup ∧ s.endReception.rbc = s.rbc ∧
    s.endReception.ent = s.ent ∧ s.endReception.mem = s.mem ∧ s.endReception.freeIndex = s.freeIndex ∧
    s.endReception.pending = s.pending := by
  unfold State.endReception
  try dsimp only
  (repeat' split) <;> simp

/-- Changes at most the valley link, the handed groups. -/
@[simp] theorem State.overrun_frame (s : State) :
    s.overrun.run = s.run ∧ s.overrun.path.still = s.path.still ∧ s.overrun.rfc = s.rfc ∧ s.overrun.prof = s.prof ∧
    s.overrun.tooth = s.tooth ∧ s.overrun.scan = s.scan ∧ s.overrun.motion = s.motion ∧ s.overrun.sup = s.sup ∧
    s.overrun.rbc = s.rbc ∧ s.overrun.ent = s.ent ∧ s.overrun.mem = s.mem ∧ s.overrun.freeIndex = s.freeIndex ∧
    s.overrun.pending = s.pending := by
  unfold State.overrun
  try dsimp only
  (repeat' split) <;> simp

@[simp] theorem State.overrun_grows (s : State) {old : PathUnit} (h : Grows old s.path) :
    Grows old s.overrun.path := by
  unfold State.overrun
  try dsimp only
  (repeat' split) <;> simp (maxDischargeDepth := 40) [h]

/-- Changes at most the valley link, the Motion Unit, the Profile Unit, the waiting fills, the handed groups, the Supervisor, the RBC, the free-value counter. -/
@[simp] theorem State.receive_frame (s : State) (us : List Half) (p : Bool) :
    (s.receive us p).state.run = s.run ∧ (s.receive us p).state.path.still = s.path.still ∧
    (s.receive us p).state.rfc.still = s.rfc.still ∧ (s.receive us p).state.tooth = s.tooth ∧
    (s.receive us p).state.scan = s.scan ∧ (s.receive us p).state.ent = s.ent ∧ (s.receive us p).state.mem = s.mem ∧
    (s.receive us p).state.pending = s.pending := by
  unfold State.receive
  try dsimp only
  (repeat' split) <;> simp

@[simp] theorem State.receive_grows (s : State) (us : List Half) (p : Bool) {old : PathUnit} (h : Grows old s.path) :
    Grows old (s.receive us p).state.path := by
  unfold State.receive
  try dsimp only
  (repeat' split) <;> simp (maxDischargeDepth := 40) [h]

/-- Changes at most the valley link, the handed groups. -/
@[simp] theorem State.fillTransmit_frame (s : State) :
    s.fillTransmit.run = s.run ∧ s.fillTransmit.path.still = s.path.still ∧ s.fillTransmit.rfc = s.rfc ∧
    s.fillTransmit.prof = s.prof ∧ s.fillTransmit.tooth = s.tooth ∧ s.fillTransmit.scan = s.scan ∧
    s.fillTransmit.motion = s.motion ∧ s.fillTransmit.sup = s.sup ∧ s.fillTransmit.rbc = s.rbc ∧
    s.fillTransmit.ent = s.ent ∧ s.fillTransmit.mem = s.mem ∧ s.fillTransmit.freeIndex = s.freeIndex ∧
    s.fillTransmit.pending = s.pending := by
  unfold State.fillTransmit
  try dsimp only
  (repeat' split) <;> simp

@[simp] theorem State.fillTransmit_grows (s : State) {old : PathUnit} (h : Grows old s.path) :
    Grows old s.fillTransmit.path := by
  unfold State.fillTransmit
  try dsimp only
  (repeat' split) <;> simp (maxDischargeDepth := 40) [h]

/-- Changes at most the valley link, the handed groups. -/
@[simp] theorem State.advanceOutbound_frame (s : State) :
    s.advanceOutbound.run = s.run ∧ s.advanceOutbound.path.still = s.path.still ∧ s.advanceOutbound.rfc = s.rfc ∧
    s.advanceOutbound.prof = s.prof ∧ s.advanceOutbound.tooth = s.tooth ∧ s.advanceOutbound.scan = s.scan ∧
    s.advanceOutbound.motion = s.motion ∧ s.advanceOutbound.sup = s.sup ∧ s.advanceOutbound.rbc = s.rbc ∧
    s.advanceOutbound.ent = s.ent ∧ s.advanceOutbound.mem = s.mem ∧ s.advanceOutbound.freeIndex = s.freeIndex ∧
    s.advanceOutbound.pending = s.pending := by
  unfold State.advanceOutbound
  try dsimp only
  (repeat' split) <;> simp

@[simp] theorem State.advanceOutbound_grows (s : State) {old : PathUnit} (h : Grows old s.path) :
    Grows old s.advanceOutbound.path := by
  unfold State.advanceOutbound
  try dsimp only
  (repeat' split) <;> simp (maxDischargeDepth := 40) [h]

/-- Changes at most the valley link, the handed groups. -/
@[simp] theorem State.judgeSlot_frame (s : State) (r : OutboundRead) :
    (s.judgeSlot r).run = s.run ∧ (s.judgeSlot r).path.still = s.path.still ∧ (s.judgeSlot r).rfc = s.rfc ∧
    (s.judgeSlot r).prof = s.prof ∧ (s.judgeSlot r).tooth = s.tooth ∧ (s.judgeSlot r).scan = s.scan ∧
    (s.judgeSlot r).motion = s.motion ∧ (s.judgeSlot r).sup = s.sup ∧ (s.judgeSlot r).rbc = s.rbc ∧
    (s.judgeSlot r).ent = s.ent ∧ (s.judgeSlot r).mem = s.mem ∧ (s.judgeSlot r).freeIndex = s.freeIndex ∧
    (s.judgeSlot r).pending = s.pending := by
  unfold State.judgeSlot
  try dsimp only
  (repeat' split) <;> simp

@[simp] theorem State.judgeSlot_grows (s : State) (r : OutboundRead) {old : PathUnit} (h : Grows old s.path) :
    Grows old (s.judgeSlot r).path := by
  unfold State.judgeSlot
  try dsimp only
  (repeat' split) <;> simp (maxDischargeDepth := 40) [h]

/-- Changes at most the valley link, the handed groups. -/
@[simp] theorem State.sent_frame (s : State) (x : Sending) :
    (s.sent x).run = s.run ∧ (s.sent x).path.still = s.path.still ∧ (s.sent x).rfc = s.rfc ∧
    (s.sent x).prof = s.prof ∧ (s.sent x).tooth = s.tooth ∧ (s.sent x).scan = s.scan ∧ (s.sent x).motion = s.motion ∧
    (s.sent x).sup = s.sup ∧ (s.sent x).rbc = s.rbc ∧ (s.sent x).ent = s.ent ∧ (s.sent x).mem = s.mem ∧
    (s.sent x).freeIndex = s.freeIndex ∧ (s.sent x).pending = s.pending := by
  unfold State.sent
  try dsimp only
  (repeat' split) <;> simp

@[simp] theorem State.sent_grows (s : State) (x : Sending) {old : PathUnit} (h : Grows old s.path) :
    Grows old (s.sent x).path := by
  unfold State.sent
  try dsimp only
  (repeat' split) <;> simp (maxDischargeDepth := 40) [h]

/-- Changes at most the valley link. -/
@[simp] theorem State.valleyToStabled_frame (s : State) :
    s.valleyToStabled.run = s.run ∧ s.valleyToStabled.path = s.path ∧ s.valleyToStabled.rfc = s.rfc ∧
    s.valleyToStabled.prof = s.prof ∧ s.valleyToStabled.tooth = s.tooth ∧ s.valleyToStabled.scan = s.scan ∧
    s.valleyToStabled.motion = s.motion ∧ s.valleyToStabled.sup = s.sup ∧ s.valleyToStabled.rbc = s.rbc ∧
    s.valleyToStabled.ent = s.ent ∧ s.valleyToStabled.mem = s.mem ∧ s.valleyToStabled.freeIndex = s.freeIndex ∧
    s.valleyToStabled.pending = s.pending := by
  unfold State.valleyToStabled
  try dsimp only
  (repeat' split) <;> simp

/-- Changes at most the valley link. -/
@[simp] theorem State.valleyToRun_frame (s : State) :
    s.valleyToRun.run = s.run ∧ s.valleyToRun.path = s.path ∧ s.valleyToRun.rfc = s.rfc ∧
    s.valleyToRun.prof = s.prof ∧ s.valleyToRun.tooth = s.tooth ∧ s.valleyToRun.scan = s.scan ∧
    s.valleyToRun.motion = s.motion ∧ s.valleyToRun.sup = s.sup ∧ s.valleyToRun.rbc = s.rbc ∧
    s.valleyToRun.ent = s.ent ∧ s.valleyToRun.mem = s.mem ∧ s.valleyToRun.freeIndex = s.freeIndex ∧
    s.valleyToRun.pending = s.pending := by
  unfold State.valleyToRun
  try dsimp only
  (repeat' split) <;> simp

/-- Changes at most the valley link. -/
@[simp] theorem State.valleyAtCcr_frame (s : State) :
    s.valleyAtCcr.run = s.run ∧ s.valleyAtCcr.path = s.path ∧ s.valleyAtCcr.rfc = s.rfc ∧
    s.valleyAtCcr.prof = s.prof ∧ s.valleyAtCcr.tooth = s.tooth ∧ s.valleyAtCcr.scan = s.scan ∧
    s.valleyAtCcr.motion = s.motion ∧ s.valleyAtCcr.sup = s.sup ∧ s.valleyAtCcr.rbc = s.rbc ∧
    s.valleyAtCcr.ent = s.ent ∧ s.valleyAtCcr.mem = s.mem ∧ s.valleyAtCcr.freeIndex = s.freeIndex ∧
    s.valleyAtCcr.pending = s.pending := by
  unfold State.valleyAtCcr
  try dsimp only
  (repeat' split) <;> simp

/-- Changes at most the Motion Unit, the handed groups. -/
@[simp] theorem State.channelSpeedAt_frame (s : State) (c : Channel) (i : Option Nat) :
    (s.channelSpeedAt c i).run = s.run ∧ (s.channelSpeedAt c i).path.still = s.path.still ∧
    (s.channelSpeedAt c i).rfc = s.rfc ∧ (s.channelSpeedAt c i).prof = s.prof ∧
    (s.channelSpeedAt c i).tooth = s.tooth ∧ (s.channelSpeedAt c i).scan = s.scan ∧
    (s.channelSpeedAt c i).sup = s.sup ∧ (s.channelSpeedAt c i).rbc = s.rbc ∧ (s.channelSpeedAt c i).ent = s.ent ∧
    (s.channelSpeedAt c i).vlu = s.vlu ∧ (s.channelSpeedAt c i).mem = s.mem ∧
    (s.channelSpeedAt c i).freeIndex = s.freeIndex ∧ (s.channelSpeedAt c i).pending = s.pending := by
  unfold State.channelSpeedAt
  try dsimp only
  (repeat' split) <;> simp

@[simp] theorem State.channelSpeedAt_grows (s : State) (c : Channel) (i : Option Nat) {old : PathUnit} (h : Grows old s.path) :
    Grows old (s.channelSpeedAt c i).path := by
  unfold State.channelSpeedAt
  try dsimp only
  (repeat' split) <;> simp (maxDischargeDepth := 40) [h]

/-- Changes at most the Motion Unit, the Profile Unit, the waiting fills, the handed groups. -/
@[simp] theorem State.motionEvent_frame (s : State) (c : Channel) (w : Way) (i : Option Nat) :
    (s.motionEvent c w i).run = s.run ∧ (s.motionEvent c w i).path.still = s.path.still ∧
    (s.motionEvent c w i).rfc.still = s.rfc.still ∧ (s.motionEvent c w i).tooth = s.tooth ∧
    (s.motionEvent c w i).scan = s.scan ∧ (s.motionEvent c w i).sup = s.sup ∧ (s.motionEvent c w i).rbc = s.rbc ∧
    (s.motionEvent c w i).ent = s.ent ∧ (s.motionEvent c w i).vlu = s.vlu ∧ (s.motionEvent c w i).mem = s.mem ∧
    (s.motionEvent c w i).freeIndex = s.freeIndex ∧ (s.motionEvent c w i).pending = s.pending := by
  unfold State.motionEvent
  try dsimp only
  (repeat' split) <;> simp

@[simp] theorem State.motionEvent_grows (s : State) (c : Channel) (w : Way) (i : Option Nat) {old : PathUnit} (h : Grows old s.path) :
    Grows old (s.motionEvent c w i).path := by
  unfold State.motionEvent
  try dsimp only
  (repeat' split) <;> simp (maxDischargeDepth := 40) [h]

/-- Changes at most Run Control, the tooth channels, the scan unit, the valley link. -/
@[simp] theorem State.leaveStabled_frame (s : State) :
    s.leaveStabled.path = s.path ∧ s.leaveStabled.rfc = s.rfc ∧ s.leaveStabled.prof = s.prof ∧
    s.leaveStabled.motion = s.motion ∧ s.leaveStabled.sup = s.sup ∧ s.leaveStabled.rbc = s.rbc ∧
    s.leaveStabled.ent = s.ent ∧ s.leaveStabled.mem = s.mem ∧ s.leaveStabled.freeIndex = s.freeIndex ∧
    s.leaveStabled.pending = s.pending := by
  unfold State.leaveStabled
  try dsimp only
  (repeat' split) <;> simp

/-- Changes at most Run Control, the tooth channels, the scan unit, the valley link, the handed groups. -/
@[simp] theorem State.wakeByMovement_frame (s : State) (c : Channel) (w : Way) (p : Nat) :
    (s.wakeByMovement c w p).path.still = s.path.still ∧ (s.wakeByMovement c w p).rfc = s.rfc ∧
    (s.wakeByMovement c w p).prof = s.prof ∧ (s.wakeByMovement c w p).motion = s.motion ∧
    (s.wakeByMovement c w p).sup = s.sup ∧ (s.wakeByMovement c w p).rbc = s.rbc ∧
    (s.wakeByMovement c w p).ent = s.ent ∧ (s.wakeByMovement c w p).mem = s.mem ∧
    (s.wakeByMovement c w p).freeIndex = s.freeIndex ∧ (s.wakeByMovement c w p).pending = s.pending := by
  unfold State.wakeByMovement
  try dsimp only
  (repeat' split) <;> simp

@[simp] theorem State.wakeByMovement_grows (s : State) (c : Channel) (w : Way) (p : Nat) {old : PathUnit} (h : Grows old s.path) :
    Grows old (s.wakeByMovement c w p).path := by
  unfold State.wakeByMovement
  try dsimp only
  (repeat' split) <;> simp (maxDischargeDepth := 40) [h]

/-- Changes at most the free-value counter. -/
@[simp] theorem State.orderCauses_frame (s : State) (g : List (List Cause)) :
    (s.orderCauses g).2.run = s.run ∧ (s.orderCauses g).2.path = s.path ∧ (s.orderCauses g).2.rfc = s.rfc ∧
    (s.orderCauses g).2.prof = s.prof ∧ (s.orderCauses g).2.tooth = s.tooth ∧ (s.orderCauses g).2.scan = s.scan ∧
    (s.orderCauses g).2.motion = s.motion ∧ (s.orderCauses g).2.sup = s.sup ∧ (s.orderCauses g).2.rbc = s.rbc ∧
    (s.orderCauses g).2.ent = s.ent ∧ (s.orderCauses g).2.vlu = s.vlu ∧ (s.orderCauses g).2.mem = s.mem ∧
    (s.orderCauses g).2.pending = s.pending := by
  unfold State.orderCauses
  try dsimp only
  (repeat' split) <;> simp

/-- Changes at most Run Control, the tooth channels, the scan unit, the valley link, the Motion Unit, the Profile Unit, the RFC, the handed groups, the RBC, the Supervisor, the entrances, the free-value counter. -/
@[simp] theorem State.toothEvent_frame (b s : State) (c : Channel) (w : Way) :
    (State.toothEvent b s c w).path.still = s.path.still ∧ (State.toothEvent b s c w).mem = s.mem ∧
    (State.toothEvent b s c w).pending = s.pending := by
  unfold State.toothEvent
  try dsimp only
  (repeat' split) <;> simp

@[simp] theorem State.toothEvent_grows (b s : State) (c : Channel) (w : Way) {old : PathUnit} (h : Grows old s.path) :
    Grows old (State.toothEvent b s c w).path := by
  unfold State.toothEvent
  try dsimp only
  (repeat' split) <;> simp (maxDischargeDepth := 40) [h]

/-- Changes at most Run Control, the tooth channels, the scan unit, the valley link, the Motion Unit, the Profile Unit, the RFC, the handed groups, the RBC, the Supervisor, the entrances, the free-value counter. -/
@[simp] theorem State.phaseStep_frame (s : State) (c : Channel) (x : ToothChannel) :
    (s.phaseStep c x).path.still = s.path.still ∧ (s.phaseStep c x).mem = s.mem ∧
    (s.phaseStep c x).pending = s.pending := by
  unfold State.phaseStep
  try dsimp only
  (repeat' split) <;> simp

@[simp] theorem State.phaseStep_grows (s : State) (c : Channel) (x : ToothChannel) {old : PathUnit} (h : Grows old s.path) :
    Grows old (s.phaseStep c x).path := by
  unfold State.phaseStep
  try dsimp only
  (repeat' split) <;> simp (maxDischargeDepth := 40) [h]

/-- Changes at most Run Control, the tooth channels, the scan unit, the valley link, the Motion Unit, the Profile Unit, the RFC, the handed groups, the RBC, the Supervisor, the entrances, the free-value counter. -/
@[simp] theorem State.phaseChange_frame (s : State) (c : Channel) (x y : InputLevel) :
    (s.phaseChange c x y).path.still = s.path.still ∧ (s.phaseChange c x y).mem = s.mem ∧
    (s.phaseChange c x y).pending = s.pending := by
  unfold State.phaseChange
  try dsimp only
  (repeat' split) <;> simp

@[simp] theorem State.phaseChange_grows (s : State) (c : Channel) (x y : InputLevel) {old : PathUnit} (h : Grows old s.path) :
    Grows old (s.phaseChange c x y).path := by
  unfold State.phaseChange
  try dsimp only
  (repeat' split) <;> simp (maxDischargeDepth := 40) [h]

/-- Changes at most the tooth channels. -/
@[simp] theorem State.toothToRun_frame (s : State) :
    s.toothToRun.run = s.run ∧ s.toothToRun.path = s.path ∧ s.toothToRun.rfc = s.rfc ∧ s.toothToRun.prof = s.prof ∧
    s.toothToRun.scan = s.scan ∧ s.toothToRun.motion = s.motion ∧ s.toothToRun.sup = s.sup ∧
    s.toothToRun.rbc = s.rbc ∧ s.toothToRun.ent = s.ent ∧ s.toothToRun.vlu = s.vlu ∧ s.toothToRun.mem = s.mem ∧
    s.toothToRun.freeIndex = s.freeIndex ∧ s.toothToRun.pending = s.pending := by
  unfold State.toothToRun
  try dsimp only
  (repeat' split) <;> simp

/-- Changes at most the tooth channels, the Motion Unit, the Profile Unit, the waiting fills, the handed groups. -/
@[simp] theorem State.intervalExpires_frame (s : State) (c : Channel) :
    (s.intervalExpires c).run = s.run ∧ (s.intervalExpires c).path.still = s.path.still ∧
    (s.intervalExpires c).rfc.still = s.rfc.still ∧ (s.intervalExpires c).scan = s.scan ∧
    (s.intervalExpires c).sup = s.sup ∧ (s.intervalExpires c).rbc = s.rbc ∧ (s.intervalExpires c).ent = s.ent ∧
    (s.intervalExpires c).vlu = s.vlu ∧ (s.intervalExpires c).mem = s.mem ∧
    (s.intervalExpires c).freeIndex = s.freeIndex ∧ (s.intervalExpires c).pending = s.pending := by
  unfold State.intervalExpires
  try dsimp only
  (repeat' split) <;> simp

@[simp] theorem State.intervalExpires_grows (s : State) (c : Channel) {old : PathUnit} (h : Grows old s.path) :
    Grows old (s.intervalExpires c).path := by
  unfold State.intervalExpires
  try dsimp only
  (repeat' split) <;> simp (maxDischargeDepth := 40) [h]

/-- Changes at most the Motion Unit, the Profile Unit, the waiting fills, the handed groups. -/
@[simp] theorem State.setStandstill_frame (s : State) :
    s.setStandstill.run = s.run ∧ s.setStandstill.path.still = s.path.still ∧
    s.setStandstill.rfc.still = s.rfc.still ∧ s.setStandstill.tooth = s.tooth ∧ s.setStandstill.scan = s.scan ∧
    s.setStandstill.sup = s.sup ∧ s.setStandstill.rbc = s.rbc ∧ s.setStandstill.ent = s.ent ∧
    s.setStandstill.vlu = s.vlu ∧ s.setStandstill.mem = s.mem ∧ s.setStandstill.freeIndex = s.freeIndex ∧
    s.setStandstill.pending = s.pending := by
  unfold State.setStandstill
  try dsimp only
  (repeat' split) <;> simp

@[simp] theorem State.setStandstill_grows (s : State) {old : PathUnit} (h : Grows old s.path) :
    Grows old s.setStandstill.path := by
  unfold State.setStandstill
  try dsimp only
  (repeat' split) <;> simp (maxDischargeDepth := 40) [h]

end Sys2Proof.Machine
end

