-- ==== Sys2Proof/Laws/Memory.lean ====
section
/-! SUPPORT. Working memory: a write keeps the canonical form, reads back at its address and leaves every other address
as it was; the word operations likewise. -/

namespace Sys2Proof.Machine

/-! ### The canonical form -/

theorem Memory.above_mono {a b : Nat} (h : a ≤ b) : ∀ {m : Memory}, Memory.above b m = true → Memory.above a m = true
  | [], _ => rfl
  | (x, _) :: m, hm => by
    simp only [Memory.above, Bool.and_eq_true, decide_eq_true_eq] at hm ⊢
    exact ⟨Nat.lt_of_le_of_lt h hm.1, Memory.above_mono h hm.2⟩

/-- An address that every cell lies above reads as the default. -/
theorem Memory.read_above {a : Nat} : ∀ {m : Memory}, Memory.above a m = true → Memory.read m a = memoryDefault
  | [], _ => rfl
  | (x, y) :: m, hm => by
    simp only [Memory.above, Bool.and_eq_true, decide_eq_true_eq] at hm
    have hx : ¬x = a := fun e => absurd hm.1 (e ▸ Nat.lt_irrefl _)
    simp only [Memory.read, hx, if_false]
    exact Memory.read_above hm.2

/-- A write above an address leaves every cell above it. -/
theorem Memory.above_write {c a : Nat} (h : c < a) (b : Byte) :
    ∀ {m : Memory}, Memory.above c m = true → Memory.above c (Memory.write m a b) = true
  | [], _ => by
    unfold Memory.write
    split <;> simp [Memory.above, h]
  | (x, y) :: m, hm => by
    simp only [Memory.above, Bool.and_eq_true, decide_eq_true_eq] at hm
    unfold Memory.write
    (repeat' split) <;> simp [Memory.above, h, hm.1, hm.2, Memory.above_write h b hm.2]

/-- A write inside the address space keeps the canonical form. -/
theorem Memory.write_wf {a : Nat} (ha : a < 16777216) (b : Byte) :
    ∀ {m : Memory}, Memory.wf m = true → Memory.wf (Memory.write m a b) = true
  | [], _ => by
    unfold Memory.write
    split
    · rfl
    · rename_i hb
      simp [Memory.wf, Memory.above, ha, hb]
  | (x, y) :: m, hm => by
    simp only [Memory.wf, Bool.and_eq_true, decide_eq_true_eq] at hm
    obtain ⟨⟨⟨hx, hy⟩, hab⟩, hwf⟩ := hm
    unfold Memory.write
    split
    · rename_i hlt
      split
      · simp [Memory.wf, hx, hy, hab, hwf]
      · rename_i hb
        simp [Memory.wf, Memory.above, ha, hb, hx, hy, hab, hwf, hlt,
          Memory.above_mono (Nat.le_of_lt hlt) hab]
    · rename_i hlt
      split
      · rename_i heq
        split
        · exact hwf
        · rename_i hb
          simp [Memory.wf, hx, hb, hwf, heq, hab]
      · rename_i hne
        have hgt : x < a := Nat.lt_of_le_of_ne (Nat.le_of_not_lt hlt) (fun e => hne e.symm)
        simp [Memory.wf, hx, hy, Memory.above_write hgt b hab, Memory.write_wf ha b hwf]

/-- Reading after a write. -/
theorem Memory.read_write {a : Nat} (b : Byte) (x : Nat) :
    ∀ {m : Memory}, Memory.wf m = true → Memory.read (Memory.write m a b) x = if x = a then b else Memory.read m x
  | [], _ => by
    unfold Memory.write
    by_cases hx : x = a
    · subst hx
      split
      · rename_i hb
        simp [Memory.read, hb]
      · simp [Memory.read]
    · have hx' : ¬a = x := fun e => hx e.symm
      split <;> simp [Memory.read, hx']
  | (u, y) :: m, hm => by
    simp only [Memory.wf, Bool.and_eq_true, decide_eq_true_eq] at hm
    obtain ⟨⟨⟨_, _⟩, hab⟩, hwf⟩ := hm
    unfold Memory.write
    by_cases hlt : a < u
    · simp only [hlt, if_true]
      have hau : Memory.above a ((u, y) :: m) = true := by
        simp [Memory.above, hlt, Memory.above_mono (Nat.le_of_lt hlt) hab]
      by_cases hx : x = a
      · subst hx
        split
        · rename_i hb
          rw [Memory.read_above hau]
          simp [hb]
        · simp [Memory.read]
      · have hx' : ¬a = x := fun e => hx e.symm
        split <;> simp [Memory.read, hx']
    · simp only [hlt, if_false]
      by_cases heq : a = u
      · subst heq
        simp only [if_true]
        by_cases hx : x = a
        · subst hx
          split
          · rename_i hb
            rw [Memory.read_above hab]
            simp [hb]
          · simp [Memory.read]
        · have hx' : ¬a = x := fun e => hx e.symm
          split <;> simp [Memory.read, hx']
      · simp only [heq, if_false]
        by_cases hu : u = x
        · subst hu
          have hua : ¬u = a := fun e => heq e.symm
          simp [Memory.read, hua]
        · simp [Memory.read, hu, Memory.read_write b x hwf]

/-- Two memories in the canonical form that read alike are equal. -/
theorem Memory.ext_of_read :
    ∀ {m n : Memory}, Memory.wf m = true → Memory.wf n = true → (∀ a, Memory.read m a = Memory.read n a) → m = n
  | [], [], _, _, _ => rfl
  | [], (x, y) :: n, _, hn, h => by
    simp only [Memory.wf, Bool.and_eq_true, decide_eq_true_eq] at hn
    have hx := h x
    simp only [Memory.read, if_true] at hx
    exact absurd hx.symm hn.1.1.2
  | (x, y) :: m, [], hm, _, h => by
    simp only [Memory.wf, Bool.and_eq_true, decide_eq_true_eq] at hm
    have hx := h x
    simp only [Memory.read, if_true] at hx
    exact absurd hx hm.1.1.2
  | (x, y) :: m, (u, v) :: n, hm, hn, h => by
    simp only [Memory.wf, Bool.and_eq_true, decide_eq_true_eq] at hm hn
    obtain ⟨⟨⟨_, hy⟩, hxm⟩, hwm⟩ := hm
    obtain ⟨⟨⟨_, hv⟩, hun⟩, hwn⟩ := hn
    have hxu : x = u := by
      rcases Nat.lt_trichotomy x u with hlt | heq | hgt
      · have hx := h x
        have hab : Memory.above x ((u, v) :: n) = true := by
          simp [Memory.above, hlt, Memory.above_mono (Nat.le_of_lt hlt) hun]
        rw [Memory.read_above hab] at hx
        simp only [Memory.read, if_true] at hx
        exact absurd hx hy
      · exact heq
      · have hu := h u
        have hab : Memory.above u ((x, y) :: m) = true := by
          simp [Memory.above, hgt, Memory.above_mono (Nat.le_of_lt hgt) hxm]
        rw [Memory.read_above hab] at hu
        simp only [Memory.read, if_true] at hu
        exact absurd hu.symm hv
    subst hxu
    have hyv : y = v := by simpa [Memory.read] using h x
    subst hyv
    have hmn : m = n := by
      refine Memory.ext_of_read hwm hwn fun a => ?_
      by_cases ha : x = a
      · subst ha
        rw [Memory.read_above hxm, Memory.read_above hun]
      · simpa [Memory.read, ha] using h a
    rw [hmn]

/-! ### Words -/

theorem wordBase_le (addr : Addr) : wordBase addr + 3 < 16777216 := by
  have h := addr.isLt
  unfold wordBase
  omega

theorem Memory.writeLane_wf {m : Memory} (hm : Memory.wf m = true) {a i : Nat} (h : a + i < 16777216) (l : Lanes) (w : Word) :
    Memory.wf (Memory.writeLane m a l w i) = true := by
  unfold Memory.writeLane
  split
  · exact Memory.write_wf h _ hm
  · exact hm

/-- A write of lanes keeps the canonical form. -/
theorem Memory.writeLanes_wf {m : Memory} (hm : Memory.wf m = true) (addr : Addr) (l : Lanes) (w : Word) :
    Memory.wf (Memory.writeLanes m addr l w) = true := by
  have h := wordBase_le addr
  unfold Memory.writeLanes
  exact Memory.writeLane_wf (Memory.writeLane_wf (Memory.writeLane_wf (Memory.writeLane_wf hm (by omega) l w) (by omega) l w)
    (by omega) l w) (by omega) l w

/-- A word write keeps the canonical form. -/
theorem Memory.writeWord_wf {m : Memory} (hm : Memory.wf m = true) (addr : Addr) (w : Word) :
    Memory.wf (Memory.writeWord m addr w) = true :=
  Memory.writeLanes_wf hm addr allLanes w

theorem Memory.read_writeLane {m : Memory} (hm : Memory.wf m = true) (a : Nat) (l : Lanes) (w : Word) (i x : Nat) :
    Memory.read (Memory.writeLane m a l w i) x = if x = a + i ∧ l.getLsbD i = true then byteOfWord w i else Memory.read m x := by
  unfold Memory.writeLane
  split
  · rename_i hl
    rw [Memory.read_write _ _ hm]
    simp [hl]
  · rename_i hl
    simp [hl]

/-- A write of lanes changes the enabled bytes of its word and no other. -/
theorem Memory.read_writeLanes {m : Memory} (hm : Memory.wf m = true) (addr : Addr) (l : Lanes) (w : Word) (x : Nat) :
    Memory.read (Memory.writeLanes m addr l w) x =
      if wordBase addr ≤ x ∧ x < wordBase addr + 4 ∧ l.getLsbD (x - wordBase addr) = true then
        byteOfWord w (x - wordBase addr)
      else Memory.read m x := by
  have h := wordBase_le addr
  have h0 := Memory.writeLane_wf hm (a := wordBase addr) (i := 0) (by omega) l w
  have h1 := Memory.writeLane_wf h0 (a := wordBase addr) (i := 1) (by omega) l w
  have h2 := Memory.writeLane_wf h1 (a := wordBase addr) (i := 2) (by omega) l w
  unfold Memory.writeLanes
  simp only
  rw [Memory.read_writeLane h2, Memory.read_writeLane h1, Memory.read_writeLane h0, Memory.read_writeLane hm]
  generalize wordBase addr = a
  by_cases h3 : x = a + 3
  · subst h3; simp
  by_cases h2 : x = a + 2
  · subst h2; simp
  by_cases h1 : x = a + 1
  · subst h1; simp
  by_cases h0 : x = a
  · subst h0; simp
  · have : ¬(a ≤ x ∧ x < a + 4) := by omega
    have h0' : ¬x = a + 0 := by omega
    simp only [h0', h1, h2, h3, false_and, if_false]
    rw [if_neg (fun hc => this ⟨hc.1, hc.2.1⟩)]

/-- The memory after reset is in the canonical form. -/
theorem reset_mem_wf : Memory.wf State.reset.mem = true := rfl

end Sys2Proof.Machine
end

