-- ==== Sys2Proof/Laws/Path.lean ====
section
/-! SUPPORT. What each operation of the Path Unit leaves as it was, and that memory keeps its canonical form through the port (chapter 10). -/

namespace Sys2Proof.Machine

/-- Changes at most Run Control, the Path Unit, the Supervisor. -/
@[simp] theorem State.slotDone_frame (s : State) (k : Slot) (g : Nat) :
    (s.slotDone k g).rfc = s.rfc ∧ (s.slotDone k g).prof = s.prof ∧ (s.slotDone k g).tooth = s.tooth ∧
    (s.slotDone k g).scan = s.scan ∧ (s.slotDone k g).motion = s.motion ∧ (s.slotDone k g).rbc = s.rbc ∧
    (s.slotDone k g).ent = s.ent ∧ (s.slotDone k g).vlu = s.vlu ∧ (s.slotDone k g).mem = s.mem ∧
    (s.slotDone k g).freeIndex = s.freeIndex ∧ (s.slotDone k g).pending = s.pending := by
  unfold State.slotDone
  try dsimp only
  (repeat' split) <;> simp

/-- Changes at most Run Control, the Path Unit, the Supervisor, the valley link. -/
@[simp] theorem State.applyEffect_frame (s : State) (e : WriteEffect) :
    (s.applyEffect e).rfc = s.rfc ∧ (s.applyEffect e).prof = s.prof ∧ (s.applyEffect e).tooth = s.tooth ∧
    (s.applyEffect e).scan = s.scan ∧ (s.applyEffect e).motion = s.motion ∧ (s.applyEffect e).rbc = s.rbc ∧
    (s.applyEffect e).ent = s.ent ∧ (s.applyEffect e).mem = s.mem ∧ (s.applyEffect e).freeIndex = s.freeIndex ∧
    (s.applyEffect e).pending = s.pending := by
  unfold State.applyEffect
  try dsimp only
  (repeat' split) <;> simp

/-- Changes at most the Path Unit, the RFC, the valley link. -/
@[simp] theorem State.deliver_frame (s : State) (p : ReadPurpose) (w : Word) :
    (s.deliver p w).run = s.run ∧ (s.deliver p w).prof = s.prof ∧ (s.deliver p w).tooth = s.tooth ∧
    (s.deliver p w).scan = s.scan ∧ (s.deliver p w).motion = s.motion ∧ (s.deliver p w).sup = s.sup ∧
    (s.deliver p w).rbc = s.rbc ∧ (s.deliver p w).ent = s.ent ∧ (s.deliver p w).mem = s.mem ∧
    (s.deliver p w).freeIndex = s.freeIndex ∧ (s.deliver p w).pending = s.pending := by
  unfold State.deliver
  try dsimp only
  (repeat' split) <;> simp

/-- Changes at most Run Control, the Path Unit, the RFC, the Supervisor, the RBC, the entrances, the valley link, memory. -/
@[simp] theorem State.reach_frame (s : State) (e : QEntry) :
    (s.reach e).prof = s.prof ∧ (s.reach e).tooth = s.tooth ∧ (s.reach e).scan = s.scan ∧
    (s.reach e).motion = s.motion ∧ (s.reach e).freeIndex = s.freeIndex ∧ (s.reach e).pending = s.pending := by
  unfold State.reach
  try dsimp only
  (repeat' split) <;> simp

/-- Changes at most the Path Unit, memory. -/
@[simp] theorem State.access_frame (s : State) (a : Access) :
    (s.access a).run = s.run ∧ (s.access a).rfc = s.rfc ∧ (s.access a).prof = s.prof ∧ (s.access a).tooth = s.tooth ∧
    (s.access a).scan = s.scan ∧ (s.access a).motion = s.motion ∧ (s.access a).sup = s.sup ∧
    (s.access a).rbc = s.rbc ∧ (s.access a).ent = s.ent ∧ (s.access a).vlu = s.vlu ∧
    (s.access a).freeIndex = s.freeIndex ∧ (s.access a).pending = s.pending := by
  unfold State.access
  try dsimp only
  (repeat' split) <;> simp

/-- Changes at most the Path Unit, memory. -/
@[simp] theorem State.grantAccess_frame (s : State) (a : Access) (n : Nat) :
    (s.grantAccess a n).run = s.run ∧ (s.grantAccess a n).rfc = s.rfc ∧ (s.grantAccess a n).prof = s.prof ∧
    (s.grantAccess a n).tooth = s.tooth ∧ (s.grantAccess a n).scan = s.scan ∧ (s.grantAccess a n).motion = s.motion ∧
    (s.grantAccess a n).sup = s.sup ∧ (s.grantAccess a n).rbc = s.rbc ∧ (s.grantAccess a n).ent = s.ent ∧
    (s.grantAccess a n).vlu = s.vlu ∧ (s.grantAccess a n).freeIndex = s.freeIndex ∧
    (s.grantAccess a n).pending = s.pending := by
  unfold State.grantAccess
  try dsimp only
  (repeat' split) <;> simp

/-- Changes at most Run Control, the Path Unit, the RFC, the Supervisor, the RBC, the entrances, the valley link, memory. -/
@[simp] theorem State.grantEntry_frame (s : State) (e : QEntry) (r : List QEntry) :
    (s.grantEntry e r).prof = s.prof ∧ (s.grantEntry e r).tooth = s.tooth ∧ (s.grantEntry e r).scan = s.scan ∧
    (s.grantEntry e r).motion = s.motion ∧ (s.grantEntry e r).freeIndex = s.freeIndex ∧
    (s.grantEntry e r).pending = s.pending := by
  unfold State.grantEntry
  try dsimp only
  (repeat' split) <;> simp

/-- Changes at most Run Control, the Path Unit, the RFC, the Supervisor, the RBC, the entrances, the valley link, memory. -/
@[simp] theorem State.grant_frame (s : State) :
    s.grant.prof = s.prof ∧ s.grant.tooth = s.tooth ∧ s.grant.scan = s.scan ∧ s.grant.motion = s.motion ∧
    s.grant.freeIndex = s.freeIndex ∧ s.grant.pending = s.pending := by
  unfold State.grant
  try dsimp only
  (repeat' split) <;> simp

/-- Changes at most Run Control, the Path Unit, the RFC, the Supervisor, the RBC, the entrances, the valley link, memory. -/
@[simp] theorem State.submit_frame (s : State) (a : Access) :
    (s.submit a).prof = s.prof ∧ (s.submit a).tooth = s.tooth ∧ (s.submit a).scan = s.scan ∧
    (s.submit a).motion = s.motion ∧ (s.submit a).freeIndex = s.freeIndex ∧ (s.submit a).pending = s.pending := by
  unfold State.submit
  try dsimp only
  (repeat' split) <;> simp

/-- Changes at most the Path Unit. -/
@[simp] theorem State.beginGroup_frame (s : State) (g : Group) :
    (s.beginGroup g).run = s.run ∧ (s.beginGroup g).rfc = s.rfc ∧ (s.beginGroup g).prof = s.prof ∧
    (s.beginGroup g).tooth = s.tooth ∧ (s.beginGroup g).scan = s.scan ∧ (s.beginGroup g).motion = s.motion ∧
    (s.beginGroup g).sup = s.sup ∧ (s.beginGroup g).rbc = s.rbc ∧ (s.beginGroup g).ent = s.ent ∧
    (s.beginGroup g).vlu = s.vlu ∧ (s.beginGroup g).mem = s.mem ∧ (s.beginGroup g).freeIndex = s.freeIndex ∧
    (s.beginGroup g).pending = s.pending := by
  unfold State.beginGroup
  try dsimp only
  (repeat' split) <;> simp

/-- Changes at most Run Control, the Path Unit, the RFC, the Supervisor, the RBC, the entrances, the valley link, memory. -/
@[simp] theorem State.serveQueue_frame (s : State) :
    s.serveQueue.prof = s.prof ∧ s.serveQueue.tooth = s.tooth ∧ s.serveQueue.scan = s.scan ∧
    s.serveQueue.motion = s.motion ∧ s.serveQueue.freeIndex = s.freeIndex ∧ s.serveQueue.pending = s.pending := by
  unfold State.serveQueue
  try dsimp only
  (repeat' split) <;> simp

/-- Changes at most Run Control, the Path Unit, the RFC, the Supervisor, the RBC, the entrances, the valley link, memory. -/
@[simp] theorem State.enterGroup_frame (s : State) :
    s.enterGroup.prof = s.prof ∧ s.enterGroup.tooth = s.tooth ∧ s.enterGroup.scan = s.scan ∧
    s.enterGroup.motion = s.motion ∧ s.enterGroup.freeIndex = s.freeIndex ∧ s.enterGroup.pending = s.pending := by
  unfold State.enterGroup
  try dsimp only
  (repeat' split) <;> simp

/-- Changes at most Run Control, the Path Unit, the RFC, the Supervisor, the RBC, the entrances, the valley link, memory. -/
@[simp] theorem State.portFalls_frame (s : State) :
    s.portFalls.prof = s.prof ∧ s.portFalls.tooth = s.tooth ∧ s.portFalls.scan = s.scan ∧
    s.portFalls.motion = s.motion ∧ s.portFalls.freeIndex = s.freeIndex ∧ s.portFalls.pending = s.pending := by
  unfold State.portFalls
  try dsimp only
  (repeat' split) <;> simp

/-- Changes at most the Path Unit. -/
@[simp] theorem State.reportDropped_frame (s : State) :
    s.reportDropped.run = s.run ∧ s.reportDropped.rfc = s.rfc ∧ s.reportDropped.prof = s.prof ∧
    s.reportDropped.tooth = s.tooth ∧ s.reportDropped.scan = s.scan ∧ s.reportDropped.motion = s.motion ∧
    s.reportDropped.sup = s.sup ∧ s.reportDropped.rbc = s.rbc ∧ s.reportDropped.ent = s.ent ∧
    s.reportDropped.vlu = s.vlu ∧ s.reportDropped.mem = s.mem ∧ s.reportDropped.freeIndex = s.freeIndex ∧
    s.reportDropped.pending = s.pending := by
  unfold State.reportDropped
  try dsimp only
  (repeat' split) <;> simp

/-- Changes at most Run Control, the Path Unit, the RFC, the Supervisor, the RBC, the entrances, the valley link, memory. -/
@[simp] theorem State.noticeConsumerWrite_frame (s : State) (a : Access) :
    (s.noticeConsumerWrite a).prof = s.prof ∧ (s.noticeConsumerWrite a).tooth = s.tooth ∧
    (s.noticeConsumerWrite a).scan = s.scan ∧ (s.noticeConsumerWrite a).motion = s.motion ∧
    (s.noticeConsumerWrite a).freeIndex = s.freeIndex ∧ (s.noticeConsumerWrite a).pending = s.pending := by
  unfold State.noticeConsumerWrite
  try dsimp only
  (repeat' split) <;> simp

/-- Changes at most Run Control, the Path Unit, the RFC, the Supervisor, the RBC, the entrances, the valley link, memory. -/
@[simp] theorem State.inboundConsumerWrite_frame (s : State) (a : Access) :
    (s.inboundConsumerWrite a).prof = s.prof ∧ (s.inboundConsumerWrite a).tooth = s.tooth ∧
    (s.inboundConsumerWrite a).scan = s.scan ∧ (s.inboundConsumerWrite a).motion = s.motion ∧
    (s.inboundConsumerWrite a).freeIndex = s.freeIndex ∧ (s.inboundConsumerWrite a).pending = s.pending := by
  unfold State.inboundConsumerWrite
  try dsimp only
  (repeat' split) <;> simp

/-- Changes at most Run Control, the Path Unit, the RFC, the Supervisor, the RBC, the entrances, the valley link, memory. -/
@[simp] theorem State.outboundProducerWrite_frame (s : State) (a : Access) :
    (s.outboundProducerWrite a).prof = s.prof ∧ (s.outboundProducerWrite a).tooth = s.tooth ∧
    (s.outboundProducerWrite a).scan = s.scan ∧ (s.outboundProducerWrite a).motion = s.motion ∧
    (s.outboundProducerWrite a).freeIndex = s.freeIndex ∧ (s.outboundProducerWrite a).pending = s.pending := by
  unfold State.outboundProducerWrite
  try dsimp only
  (repeat' split) <;> simp

/-- Changes at most Run Control, the Path Unit, the RFC, the Supervisor, the RBC, the entrances, the valley link, memory. -/
@[simp] theorem State.storeGuarded_frame (s b : State) (w : Guarded) (a : Access) (v : Word) (g : Bool) :
    (s.storeGuarded b w a v g).prof = s.prof ∧ (s.storeGuarded b w a v g).tooth = s.tooth ∧
    (s.storeGuarded b w a v g).scan = s.scan ∧ (s.storeGuarded b w a v g).motion = s.motion ∧
    (s.storeGuarded b w a v g).freeIndex = s.freeIndex ∧ (s.storeGuarded b w a v g).pending = s.pending := by
  unfold State.storeGuarded
  try dsimp only
  (repeat' split) <;> simp

/-- Changes at most the Supervisor, the Profile Unit, the waiting fills, the Motion Unit, the handed groups. -/
@[simp] theorem State.takeDirection_frame (s : State) (d : Dir) :
    (s.takeDirection d).run = s.run ∧ (s.takeDirection d).path.still = s.path.still ∧
    (s.takeDirection d).rfc.still = s.rfc.still ∧ (s.takeDirection d).tooth = s.tooth ∧
    (s.takeDirection d).scan = s.scan ∧ (s.takeDirection d).rbc = s.rbc ∧ (s.takeDirection d).ent = s.ent ∧
    (s.takeDirection d).vlu = s.vlu ∧ (s.takeDirection d).mem = s.mem ∧ (s.takeDirection d).freeIndex = s.freeIndex ∧
    (s.takeDirection d).pending = s.pending := by
  unfold State.takeDirection
  try dsimp only
  (repeat' split) <;> simp

@[simp] theorem State.takeDirection_grows (s : State) (d : Dir) {old : PathUnit} (h : Grows old s.path) :
    Grows old (s.takeDirection d).path := by
  unfold State.takeDirection
  try dsimp only
  (repeat' split) <;> simp (maxDischargeDepth := 40) [h]

/-- Changes at most the Supervisor. -/
@[simp] theorem State.takeTraction_frame (s : State) (w : Word) :
    (s.takeTraction w).run = s.run ∧ (s.takeTraction w).path = s.path ∧ (s.takeTraction w).rfc = s.rfc ∧
    (s.takeTraction w).prof = s.prof ∧ (s.takeTraction w).tooth = s.tooth ∧ (s.takeTraction w).scan = s.scan ∧
    (s.takeTraction w).motion = s.motion ∧ (s.takeTraction w).rbc = s.rbc ∧ (s.takeTraction w).ent = s.ent ∧
    (s.takeTraction w).vlu = s.vlu ∧ (s.takeTraction w).mem = s.mem ∧ (s.takeTraction w).freeIndex = s.freeIndex ∧
    (s.takeTraction w).pending = s.pending := by
  unfold State.takeTraction
  try dsimp only
  (repeat' split) <;> simp

/-- Changes at most the RBC. -/
@[simp] theorem State.takeRelease_frame (s : State) :
    s.takeRelease.run = s.run ∧ s.takeRelease.path = s.path ∧ s.takeRelease.rfc = s.rfc ∧
    s.takeRelease.prof = s.prof ∧ s.takeRelease.tooth = s.tooth ∧ s.takeRelease.scan = s.scan ∧
    s.takeRelease.motion = s.motion ∧ s.takeRelease.sup = s.sup ∧ s.takeRelease.ent = s.ent ∧
    s.takeRelease.vlu = s.vlu ∧ s.takeRelease.mem = s.mem ∧ s.takeRelease.freeIndex = s.freeIndex ∧
    s.takeRelease.pending = s.pending := by
  unfold State.takeRelease
  try dsimp only
  (repeat' split) <;> simp

/-- Changes at most the RBC, the handed groups. -/
@[simp] theorem State.takeApply_frame (s : State) :
    s.takeApply.run = s.run ∧ s.takeApply.path.still = s.path.still ∧ s.takeApply.rfc = s.rfc ∧
    s.takeApply.prof = s.prof ∧ s.takeApply.tooth = s.tooth ∧ s.takeApply.scan = s.scan ∧
    s.takeApply.motion = s.motion ∧ s.takeApply.sup = s.sup ∧ s.takeApply.ent = s.ent ∧ s.takeApply.vlu = s.vlu ∧
    s.takeApply.mem = s.mem ∧ s.takeApply.freeIndex = s.freeIndex ∧ s.takeApply.pending = s.pending := by
  unfold State.takeApply
  try dsimp only
  (repeat' split) <;> simp

@[simp] theorem State.takeApply_grows (s : State) {old : PathUnit} (h : Grows old s.path) :
    Grows old s.takeApply.path := by
  unfold State.takeApply
  try dsimp only
  (repeat' split) <;> simp (maxDischargeDepth := 40) [h]

/-- Changes at most Run Control, the Path Unit, the RFC, the Supervisor, the RBC, the entrances, the valley link, memory, the Profile Unit, the Motion Unit. -/
@[simp] theorem State.directionWrite_frame (s : State) (a : Access) :
    (s.directionWrite a).tooth = s.tooth ∧ (s.directionWrite a).scan = s.scan ∧
    (s.directionWrite a).freeIndex = s.freeIndex ∧ (s.directionWrite a).pending = s.pending := by
  unfold State.directionWrite
  try dsimp only
  (repeat' split) <;> simp

/-- Changes at most Run Control, the Path Unit, the RFC, the Supervisor, the RBC, the entrances, the valley link, memory. -/
@[simp] theorem State.tractionWrite_frame (s : State) (a : Access) :
    (s.tractionWrite a).prof = s.prof ∧ (s.tractionWrite a).tooth = s.tooth ∧ (s.tractionWrite a).scan = s.scan ∧
    (s.tractionWrite a).motion = s.motion ∧ (s.tractionWrite a).freeIndex = s.freeIndex ∧
    (s.tractionWrite a).pending = s.pending := by
  unfold State.tractionWrite
  try dsimp only
  (repeat' split) <;> simp

/-- Changes at most Run Control, the Path Unit, the RFC, the Supervisor, the RBC, the entrances, the valley link, memory. -/
@[simp] theorem State.rackBrakeWrite_frame (s : State) (a : Access) :
    (s.rackBrakeWrite a).prof = s.prof ∧ (s.rackBrakeWrite a).tooth = s.tooth ∧ (s.rackBrakeWrite a).scan = s.scan ∧
    (s.rackBrakeWrite a).motion = s.motion ∧ (s.rackBrakeWrite a).freeIndex = s.freeIndex ∧
    (s.rackBrakeWrite a).pending = s.pending := by
  unfold State.rackBrakeWrite
  try dsimp only
  (repeat' split) <;> simp

/-- Changes at most Run Control, the Path Unit, the RFC, the Supervisor, the RBC, the entrances, the valley link, memory. -/
@[simp] theorem State.serviceBrakeWrite_frame (s : State) (a : Access) :
    (s.serviceBrakeWrite a).prof = s.prof ∧ (s.serviceBrakeWrite a).tooth = s.tooth ∧
    (s.serviceBrakeWrite a).scan = s.scan ∧ (s.serviceBrakeWrite a).motion = s.motion ∧
    (s.serviceBrakeWrite a).freeIndex = s.freeIndex ∧ (s.serviceBrakeWrite a).pending = s.pending := by
  unfold State.serviceBrakeWrite
  try dsimp only
  (repeat' split) <;> simp

/-- `requestWrite` leaves every other part as it was. -/
@[simp] theorem State.requestWrite_frame (s : State) (e : Entrance) (a : Access) :
    (s.requestWrite e a).prof = s.prof ∧ (s.requestWrite e a).tooth = s.tooth ∧ (s.requestWrite e a).scan = s.scan ∧
    (s.requestWrite e a).motion = s.motion ∧ (s.requestWrite e a).freeIndex = s.freeIndex ∧
    (s.requestWrite e a).pending = s.pending := by
  unfold State.requestWrite
  split
  · simp
  · rename_i q _
    have hd := s.decideRequest_frame e q
    split
    · simp
    · split <;> rename_i t h <;> rw [h] at hd <;> dsimp only at hd <;> simp [hd]

/-- Changes at most Run Control, the Path Unit, the RFC, the Supervisor, the RBC, the entrances, the valley link, memory, the Profile Unit, the Motion Unit. -/
@[simp] theorem State.guardedWrite_frame (s : State) (w : Guarded) (a : Access) :
    (s.guardedWrite w a).tooth = s.tooth ∧ (s.guardedWrite w a).scan = s.scan ∧
    (s.guardedWrite w a).freeIndex = s.freeIndex ∧ (s.guardedWrite w a).pending = s.pending := by
  unfold State.guardedWrite
  try dsimp only
  (repeat' split) <;> simp

/-- Changes at most the handed groups. -/
@[simp] theorem State.dispatch_frame (s : State) (m : WindowMap) (k : Slot) (o : Byte) (g : Nat) :
    (s.dispatch m k o g).run = s.run ∧ (s.dispatch m k o g).path.still = s.path.still ∧
    (s.dispatch m k o g).rfc = s.rfc ∧ (s.dispatch m k o g).prof = s.prof ∧ (s.dispatch m k o g).tooth = s.tooth ∧
    (s.dispatch m k o g).scan = s.scan ∧ (s.dispatch m k o g).motion = s.motion ∧ (s.dispatch m k o g).sup = s.sup ∧
    (s.dispatch m k o g).rbc = s.rbc ∧ (s.dispatch m k o g).ent = s.ent ∧ (s.dispatch m k o g).vlu = s.vlu ∧
    (s.dispatch m k o g).mem = s.mem ∧ (s.dispatch m k o g).freeIndex = s.freeIndex ∧
    (s.dispatch m k o g).pending = s.pending := by
  unfold State.dispatch
  try dsimp only
  (repeat' split) <;> simp

@[simp] theorem State.dispatch_grows (s : State) (m : WindowMap) (k : Slot) (o : Byte) (g : Nat) {old : PathUnit} (h : Grows old s.path) :
    Grows old (s.dispatch m k o g).path := by
  unfold State.dispatch
  try dsimp only
  (repeat' split) <;> simp (maxDischargeDepth := 40) [h]

/-- Changes at most the Path Unit. -/
@[simp] theorem State.acceptGo_frame (s : State) (m : WindowMap) (k : Slot) (o : Byte) :
    (s.acceptGo m k o).run = s.run ∧ (s.acceptGo m k o).rfc = s.rfc ∧ (s.acceptGo m k o).prof = s.prof ∧
    (s.acceptGo m k o).tooth = s.tooth ∧ (s.acceptGo m k o).scan = s.scan ∧ (s.acceptGo m k o).motion = s.motion ∧
    (s.acceptGo m k o).sup = s.sup ∧ (s.acceptGo m k o).rbc = s.rbc ∧ (s.acceptGo m k o).ent = s.ent ∧
    (s.acceptGo m k o).vlu = s.vlu ∧ (s.acceptGo m k o).mem = s.mem ∧ (s.acceptGo m k o).freeIndex = s.freeIndex ∧
    (s.acceptGo m k o).pending = s.pending := by
  unfold State.acceptGo
  try dsimp only
  (repeat' split) <;> simp

/-- Changes at most the Path Unit. -/
@[simp] theorem State.clearSlot_frame (s : State) (k : Slot) :
    (s.clearSlot k).run = s.run ∧ (s.clearSlot k).rfc = s.rfc ∧ (s.clearSlot k).prof = s.prof ∧
    (s.clearSlot k).tooth = s.tooth ∧ (s.clearSlot k).scan = s.scan ∧ (s.clearSlot k).motion = s.motion ∧
    (s.clearSlot k).sup = s.sup ∧ (s.clearSlot k).rbc = s.rbc ∧ (s.clearSlot k).ent = s.ent ∧
    (s.clearSlot k).vlu = s.vlu ∧ (s.clearSlot k).mem = s.mem ∧ (s.clearSlot k).freeIndex = s.freeIndex ∧
    (s.clearSlot k).pending = s.pending := by
  unfold State.clearSlot
  try dsimp only
  (repeat' split) <;> simp

/-- Changes at most Run Control, the Path Unit, the RFC, the Supervisor, the RBC, the entrances, the valley link, memory. -/
@[simp] theorem State.controlWrite_frame (s : State) (m : WindowMap) (k : Slot) (a : Access) :
    (s.controlWrite m k a).prof = s.prof ∧ (s.controlWrite m k a).tooth = s.tooth ∧
    (s.controlWrite m k a).scan = s.scan ∧ (s.controlWrite m k a).motion = s.motion ∧
    (s.controlWrite m k a).freeIndex = s.freeIndex ∧ (s.controlWrite m k a).pending = s.pending := by
  unfold State.controlWrite
  try dsimp only
  (repeat' split) <;> simp

/-- Changes at most Run Control, the Path Unit, the RFC, the Supervisor, the RBC, the entrances, the valley link, memory, the Profile Unit, the Motion Unit. -/
@[simp] theorem State.busWrite_frame (s : State) (m : WindowMap) (a : Access) :
    (s.busWrite m a).tooth = s.tooth ∧ (s.busWrite m a).scan = s.scan ∧ (s.busWrite m a).freeIndex = s.freeIndex ∧
    (s.busWrite m a).pending = s.pending := by
  unfold State.busWrite
  try dsimp only
  (repeat' split) <;> simp

/-- Changes at most Run Control, the Path Unit, the RFC, the Supervisor, the RBC, the entrances, the valley link, memory. -/
@[simp] theorem State.busRead_frame (s : State) (m : WindowMap) (a : Access) :
    (s.busRead m a).prof = s.prof ∧ (s.busRead m a).tooth = s.tooth ∧ (s.busRead m a).scan = s.scan ∧
    (s.busRead m a).motion = s.motion ∧ (s.busRead m a).freeIndex = s.freeIndex ∧ (s.busRead m a).pending = s.pending := by
  unfold State.busRead
  try dsimp only
  (repeat' split) <;> simp

/-- Changes at most Run Control, the Path Unit, the RFC, the Supervisor, the RBC, the entrances, the valley link, memory, the Profile Unit, the Motion Unit. -/
@[simp] theorem State.busServed_frame (s : State) (a : Access) :
    (s.busServed a).tooth = s.tooth ∧ (s.busServed a).scan = s.scan ∧ (s.busServed a).freeIndex = s.freeIndex ∧
    (s.busServed a).pending = s.pending := by
  unfold State.busServed
  try dsimp only
  (repeat' split) <;> simp

/-- Changes at most Run Control, the Path Unit, the RFC, the Supervisor, the RBC, the entrances, the valley link, memory, the Profile Unit, the Motion Unit. -/
@[simp] theorem State.busAccess_frame (s : State) (a : Access) :
    (s.busAccess a).tooth = s.tooth ∧ (s.busAccess a).scan = s.scan ∧ (s.busAccess a).freeIndex = s.freeIndex ∧
    (s.busAccess a).pending = s.pending := by
  unfold State.busAccess
  try dsimp only
  (repeat' split) <;> simp

/-! ### The canonical form of memory -/

/-- An entry that reaches memory keeps the canonical form (R168). -/
theorem State.reach_wf {s : State} (h : Memory.wf s.mem = true) (e : QEntry) : Memory.wf (s.reach e).mem = true := by
  unfold State.reach
  (repeat' split) <;> simp [h, Memory.writeWord_wf]

/-- The computer's access keeps the canonical form (R169). -/
theorem State.access_wf {s : State} (h : Memory.wf s.mem = true) (a : Access) : Memory.wf (s.access a).mem = true := by
  unfold State.access
  split <;> simp [h, Memory.writeLanes_wf]

/-- A grant keeps the canonical form (R169). -/
theorem State.grant_wf {s : State} (h : Memory.wf s.mem = true) : Memory.wf s.grant.mem = true := by
  unfold State.grant State.grantAccess State.grantEntry
  (repeat' split) <;> first
    | exact h
    | exact State.access_wf (by exact h) _
    | exact State.reach_wf (by exact h) _

/-- A computer access keeps the canonical form. -/
theorem State.submit_wf {s : State} (h : Memory.wf s.mem = true) (a : Access) : Memory.wf (s.submit a).mem = true :=
  State.grant_wf h

theorem State.serveQueue_wf {s : State} (h : Memory.wf s.mem = true) : Memory.wf s.serveQueue.mem = true := by
  unfold State.serveQueue
  simp only [State.pushEntering_frame]
  exact State.grant_wf (by simpa using h)

theorem State.enterGroup_wf {s : State} (h : Memory.wf s.mem = true) : Memory.wf s.enterGroup.mem = true := by
  unfold State.enterGroup
  (repeat' split) <;> first
    | exact h
    | exact State.serveQueue_wf (by simpa using h)

theorem State.portFalls_wf {s : State} (h : Memory.wf s.mem = true) : Memory.wf s.portFalls.mem = true := by
  exact State.serveQueue_wf (by exact h)

theorem State.storeGuarded_wf {s : State} (h : Memory.wf s.mem = true) (b : State) (w : Guarded) (a : Access) (v : Word)
    (g : Bool) : Memory.wf (s.storeGuarded b w a v g).mem = true :=
  State.submit_wf (by simpa using h) _

/-- A guarded write keeps the canonical form (R167). -/
theorem State.guardedWrite_wf {s : State} (h : Memory.wf s.mem = true) (w : Guarded) (a : Access) :
    Memory.wf (s.guardedWrite w a).mem = true := by
  cases w
  · simp only [State.guardedWrite, State.directionWrite]
    (repeat' split) <;> first
      | simpa using h
      | exact State.storeGuarded_wf (by simpa using h) _ _ _ _ _
  · simp only [State.guardedWrite, State.tractionWrite]
    (repeat' split) <;> first
      | simpa using h
      | exact State.storeGuarded_wf (by simpa using h) _ _ _ _ _
  · simp only [State.guardedWrite, State.rackBrakeWrite]
    (repeat' split) <;> first
      | simpa using h
      | exact State.storeGuarded_wf (by simpa using h) _ _ _ _ _
  · simp only [State.guardedWrite, State.serviceBrakeWrite]
    (repeat' split) <;> first
      | simpa using h
      | exact State.storeGuarded_wf (by simpa using h) _ _ _ _ _
  · rename_i e
    simp only [State.guardedWrite, State.requestWrite]
    split
    · simpa using h
    · rename_i q _
      have hd := (s.decideRequest_frame e q)
      split
      · simpa using h
      · split <;> rename_i t ht <;> rw [ht] at hd <;> dsimp only at hd
        · exact State.storeGuarded_wf (by simpa [hd] using h) _ _ _ _ _
        · simpa [hd] using h

theorem State.noticeConsumerWrite_wf {s : State} (h : Memory.wf s.mem = true) (a : Access) :
    Memory.wf (s.noticeConsumerWrite a).mem = true := by
  unfold State.noticeConsumerWrite
  dsimp only
  split
  · exact State.submit_wf (by split <;> simpa using h) _
  · simpa using h

theorem State.inboundConsumerWrite_wf {s : State} (h : Memory.wf s.mem = true) (a : Access) :
    Memory.wf (s.inboundConsumerWrite a).mem = true := by
  unfold State.inboundConsumerWrite
  dsimp only
  split
  · exact State.submit_wf (by simpa using h) _
  · simpa using h

theorem State.outboundProducerWrite_wf {s : State} (h : Memory.wf s.mem = true) (a : Access) :
    Memory.wf (s.outboundProducerWrite a).mem = true := by
  unfold State.outboundProducerWrite
  dsimp only
  split
  · simp only [State.fillTransmit_frame]
    exact State.submit_wf (by simpa using h) _
  · simpa using h

theorem State.controlWrite_wf {s : State} (h : Memory.wf s.mem = true) (m : WindowMap) (k : Slot) (a : Access) :
    Memory.wf (s.controlWrite m k a).mem = true := by
  unfold State.controlWrite
  (repeat' split) <;> first
    | simpa using h
    | exact State.submit_wf (by simpa using h) _

/-- A write that the Path Unit classifies keeps the canonical form (R165). -/
theorem State.busWrite_wf {s : State} (h : Memory.wf s.mem = true) (m : WindowMap) (a : Access) :
    Memory.wf (s.busWrite m a).mem = true := by
  unfold State.busWrite
  (repeat' split) <;> first
    | exact State.submit_wf h _
    | exact State.guardedWrite_wf h _ _
    | exact State.controlWrite_wf h _ _ _
    | exact State.noticeConsumerWrite_wf h _
    | exact State.inboundConsumerWrite_wf h _
    | exact State.outboundProducerWrite_wf h _
    | simpa using h

/-- One access of the car computer keeps the canonical form. -/
theorem State.busAccess_wf {s : State} (h : Memory.wf s.mem = true) (a : Access) : Memory.wf (s.busAccess a).mem = true := by
  unfold State.busAccess State.busServed State.busRead
  (repeat' split) <;> first
    | exact State.submit_wf h _
    | exact State.busWrite_wf h _ _
    | simpa using h

/-! ### Groups enter (R168) -/

/-- Changes at most Run Control, the Path Unit, the RFC, the Supervisor, the RBC, the entrances, the valley link, memory. -/
@[simp] theorem State.takeGroup_frame (s : State) (g : Group) :
    (s.takeGroup g).prof = s.prof ∧ (s.takeGroup g).tooth = s.tooth ∧ (s.takeGroup g).scan = s.scan ∧
    (s.takeGroup g).motion = s.motion ∧ (s.takeGroup g).freeIndex = s.freeIndex ∧ (s.takeGroup g).pending = s.pending := by
  unfold State.takeGroup
  split <;> simp

/-- Groups that enter one after another. -/
theorem takeAll_frame (gs : List Group) (s : State) :
    (gs.foldl State.takeGroup s).prof = s.prof ∧ (gs.foldl State.takeGroup s).tooth = s.tooth ∧
    (gs.foldl State.takeGroup s).scan = s.scan ∧ (gs.foldl State.takeGroup s).motion = s.motion ∧
    (gs.foldl State.takeGroup s).freeIndex = s.freeIndex ∧ (gs.foldl State.takeGroup s).pending = s.pending := by
  induction gs generalizing s with
  | nil => simp
  | cons g gs ih => simp [ih]

/-- As for one group, and the free-value counter. -/
@[simp] theorem State.takeHanded_frame (s : State) :
    s.takeHanded.prof = s.prof ∧ s.takeHanded.tooth = s.tooth ∧ s.takeHanded.scan = s.scan ∧
    s.takeHanded.motion = s.motion ∧ s.takeHanded.pending = s.pending := by
  unfold State.takeHanded
  dsimp only
  (repeat' split) <;> simp [takeAll_frame]

/-- As for one group, and the free-value counter. -/
@[simp] theorem State.entered_frame (s : State) :
    s.entered.prof = s.prof ∧ s.entered.tooth = s.tooth ∧ s.entered.scan = s.scan ∧ s.entered.motion = s.motion ∧
    s.entered.pending = s.pending := by
  simp [State.entered]

@[simp] theorem State.enterWaiting_frame (k : Nat) (s : State) :
    (s.enterWaiting k).prof = s.prof ∧ (s.enterWaiting k).tooth = s.tooth ∧ (s.enterWaiting k).scan = s.scan ∧
    (s.enterWaiting k).motion = s.motion ∧ (s.enterWaiting k).freeIndex = s.freeIndex ∧
    (s.enterWaiting k).pending = s.pending := by
  induction k generalizing s with
  | zero => simp [State.enterWaiting]
  | succ k ih => simp [State.enterWaiting, ih]

/-- As for one group, and the free-value counter. -/
@[simp] theorem State.waitersEnter_frame (s : State) :
    s.waitersEnter.prof = s.prof ∧ s.waitersEnter.tooth = s.tooth ∧ s.waitersEnter.scan = s.scan ∧
    s.waitersEnter.motion = s.motion ∧ s.waitersEnter.pending = s.pending := by
  simp [State.waitersEnter]

/-- As for one group, and the free-value counter. -/
@[simp] theorem State.served_frame (s : State) :
    s.served.prof = s.prof ∧ s.served.tooth = s.tooth ∧ s.served.scan = s.scan ∧ s.served.motion = s.motion ∧
    s.served.pending = s.pending := by
  simp [State.served]

/-- With nothing handed nothing enters. -/
theorem State.entered_none {s : State} (h : s.path.handed = []) : s.entered = s := by
  have e : s.takeHanded = s := by unfold State.takeHanded; simp [h]
  rw [State.entered, e, e]

/-- With nothing waiting and nothing handed no group enters. -/
theorem State.waitersEnter_none {s : State} (hw : s.path.waiters = []) (h : s.path.handed = []) : s.waitersEnter = s := by
  rw [State.waitersEnter, hw]
  exact State.entered_none h

/-- One group that is handed alone enters or joins the waiters, and no free value is drawn. -/
theorem State.takeHanded_one {s : State} {g : Group} (h : s.path.handed = [g]) :
    s.takeHanded = State.takeGroup { s with path := { s.path with handed := [] } } g := by
  unfold State.takeHanded
  simp [h, chained]

theorem State.takeGroup_wf {s : State} (h : Memory.wf s.mem = true) (g : Group) : Memory.wf (s.takeGroup g).mem = true := by
  unfold State.takeGroup
  split
  · exact State.serveQueue_wf (by simpa using h)
  · exact h

theorem takeAll_wf (gs : List Group) {s : State} (h : Memory.wf s.mem = true) :
    Memory.wf (gs.foldl State.takeGroup s).mem = true := by
  induction gs generalizing s with
  | nil => exact h
  | cons g gs ih => exact ih (State.takeGroup_wf h g)

theorem State.takeHanded_wf {s : State} (h : Memory.wf s.mem = true) : Memory.wf s.takeHanded.mem = true := by
  unfold State.takeHanded
  dsimp only
  (repeat' split) <;> first
    | exact h
    | exact takeAll_wf _ h

theorem State.entered_wf {s : State} (h : Memory.wf s.mem = true) : Memory.wf s.entered.mem = true :=
  State.takeHanded_wf (State.takeHanded_wf h)

theorem State.enterWaiting_wf (k : Nat) {s : State} (h : Memory.wf s.mem = true) :
    Memory.wf (s.enterWaiting k).mem = true := by
  induction k generalizing s with
  | zero => exact h
  | succ k ih => exact ih (State.enterGroup_wf h)

theorem State.waitersEnter_wf {s : State} (h : Memory.wf s.mem = true) : Memory.wf s.waitersEnter.mem = true :=
  State.entered_wf (State.enterWaiting_wf _ h)

theorem State.served_wf {s : State} (h : Memory.wf s.mem = true) : Memory.wf s.served.mem = true :=
  State.waitersEnter_wf (State.entered_wf h)

end Sys2Proof.Machine
end

