-- ==== Sys2Proof/Laws/Run.lean ====
section
/-! SUPPORT. What each operation of Run Control leaves as it was, and that memory keeps its canonical form through it (chapters 2, 5, 9 and R179). -/

namespace Sys2Proof.Machine

/-- Changes at most Run Control, the Path Unit, the RFC, the Profile Unit, the scan unit, the Supervisor, the RBC, the entrances, the valley link, memory. -/
@[simp] theorem State.enterConfigFault_frame (s : State) :
    s.enterConfigFault.tooth = s.tooth ∧ s.enterConfigFault.motion = s.motion ∧
    s.enterConfigFault.freeIndex = s.freeIndex ∧ s.enterConfigFault.pending = s.pending := by
  unfold State.enterConfigFault
  try dsimp only
  (repeat' split) <;> simp

/-- Changes at most the Path Unit, the RFC. -/
@[simp] theorem State.acceptConfig_frame (s : State) :
    s.acceptConfig.run = s.run ∧ s.acceptConfig.prof = s.prof ∧ s.acceptConfig.tooth = s.tooth ∧
    s.acceptConfig.scan = s.scan ∧ s.acceptConfig.motion = s.motion ∧ s.acceptConfig.sup = s.sup ∧
    s.acceptConfig.rbc = s.rbc ∧ s.acceptConfig.ent = s.ent ∧ s.acceptConfig.vlu = s.vlu ∧
    s.acceptConfig.mem = s.mem ∧ s.acceptConfig.freeIndex = s.freeIndex ∧ s.acceptConfig.pending = s.pending := by
  unfold State.acceptConfig
  try dsimp only
  (repeat' split) <;> simp

/-- Changes at most Run Control, the Path Unit, the RFC, the Profile Unit, the scan unit, the Supervisor, the RBC, the entrances, the valley link, memory. -/
@[simp] theorem State.configReadEnds_frame (s : State) (k : Nat) (b : List Byte) :
    (s.configReadEnds k b).tooth = s.tooth ∧ (s.configReadEnds k b).motion = s.motion ∧
    (s.configReadEnds k b).freeIndex = s.freeIndex ∧ (s.configReadEnds k b).pending = s.pending := by
  unfold State.configReadEnds
  try dsimp only
  (repeat' split) <;> simp

/-- Changes at most Run Control, the Path Unit, the RFC, the Profile Unit, the tooth channels, the scan unit, the Motion Unit, the Supervisor, the RBC, the entrances, the valley link, memory. -/
@[simp] theorem State.enterRun_frame (s : State) :
    s.enterRun.freeIndex = s.freeIndex ∧ s.enterRun.pending = s.pending := by
  unfold State.enterRun
  try dsimp only
  (repeat' split) <;> simp

/-- Changes at most Run Control. -/
@[simp] theorem State.runBusy_frame (s : State) (k : Slot) :
    (s.runBusy k).path = s.path ∧ (s.runBusy k).rfc = s.rfc ∧ (s.runBusy k).prof = s.prof ∧
    (s.runBusy k).tooth = s.tooth ∧ (s.runBusy k).scan = s.scan ∧ (s.runBusy k).motion = s.motion ∧
    (s.runBusy k).sup = s.sup ∧ (s.runBusy k).rbc = s.rbc ∧ (s.runBusy k).ent = s.ent ∧ (s.runBusy k).vlu = s.vlu ∧
    (s.runBusy k).mem = s.mem ∧ (s.runBusy k).freeIndex = s.freeIndex ∧ (s.runBusy k).pending = s.pending := by
  unfold State.runBusy
  try dsimp only
  (repeat' split) <;> simp

/-- Changes at most Run Control, the tooth channels, the scan unit, the valley link, the handed groups. -/
@[simp] theorem State.enterStabled_frame (s : State) :
    s.enterStabled.path.still = s.path.still ∧ s.enterStabled.rfc = s.rfc ∧ s.enterStabled.prof = s.prof ∧
    s.enterStabled.motion = s.motion ∧ s.enterStabled.sup = s.sup ∧ s.enterStabled.rbc = s.rbc ∧
    s.enterStabled.ent = s.ent ∧ s.enterStabled.mem = s.mem ∧ s.enterStabled.freeIndex = s.freeIndex ∧
    s.enterStabled.pending = s.pending := by
  unfold State.enterStabled
  try dsimp only
  (repeat' split) <;> simp

@[simp] theorem State.enterStabled_grows (s : State) {old : PathUnit} (h : Grows old s.path) :
    Grows old s.enterStabled.path := by
  unfold State.enterStabled
  try dsimp only
  (repeat' split) <;> simp (maxDischargeDepth := 40) [h]

/-- Changes at most Run Control, the tooth channels, the scan unit, the valley link, the handed groups. -/
@[simp] theorem State.stable_frame (s : State) (k : Slot) :
    (s.stable k).path.still = s.path.still ∧ (s.stable k).rfc = s.rfc ∧ (s.stable k).prof = s.prof ∧
    (s.stable k).motion = s.motion ∧ (s.stable k).sup = s.sup ∧ (s.stable k).rbc = s.rbc ∧ (s.stable k).ent = s.ent ∧
    (s.stable k).mem = s.mem ∧ (s.stable k).freeIndex = s.freeIndex ∧ (s.stable k).pending = s.pending := by
  unfold State.stable
  try dsimp only
  (repeat' split) <;> simp

@[simp] theorem State.stable_grows (s : State) (k : Slot) {old : PathUnit} (h : Grows old s.path) :
    Grows old (s.stable k).path := by
  unfold State.stable
  try dsimp only
  (repeat' split) <;> simp (maxDischargeDepth := 40) [h]

/-- Changes at most Run Control, the tooth channels, the scan unit, the valley link, the handed groups. -/
@[simp] theorem State.resume_frame (s : State) (k : Slot) :
    (s.resume k).path.still = s.path.still ∧ (s.resume k).rfc = s.rfc ∧ (s.resume k).prof = s.prof ∧
    (s.resume k).motion = s.motion ∧ (s.resume k).sup = s.sup ∧ (s.resume k).rbc = s.rbc ∧ (s.resume k).ent = s.ent ∧
    (s.resume k).mem = s.mem ∧ (s.resume k).freeIndex = s.freeIndex ∧ (s.resume k).pending = s.pending := by
  unfold State.resume
  try dsimp only
  (repeat' split) <;> simp

@[simp] theorem State.resume_grows (s : State) (k : Slot) {old : PathUnit} (h : Grows old s.path) :
    Grows old (s.resume k).path := by
  unfold State.resume
  try dsimp only
  (repeat' split) <;> simp (maxDischargeDepth := 40) [h]

/-- Changes at most Run Control, the tooth channels, the scan unit, the valley link, the handed groups. -/
@[simp] theorem State.wakeByLockLoss_frame (s : State) (e : Entrance) :
    (s.wakeByLockLoss e).path.still = s.path.still ∧ (s.wakeByLockLoss e).rfc = s.rfc ∧
    (s.wakeByLockLoss e).prof = s.prof ∧ (s.wakeByLockLoss e).motion = s.motion ∧ (s.wakeByLockLoss e).sup = s.sup ∧
    (s.wakeByLockLoss e).rbc = s.rbc ∧ (s.wakeByLockLoss e).ent = s.ent ∧ (s.wakeByLockLoss e).mem = s.mem ∧
    (s.wakeByLockLoss e).freeIndex = s.freeIndex ∧ (s.wakeByLockLoss e).pending = s.pending := by
  unfold State.wakeByLockLoss
  try dsimp only
  (repeat' split) <;> simp

@[simp] theorem State.wakeByLockLoss_grows (s : State) (e : Entrance) {old : PathUnit} (h : Grows old s.path) :
    Grows old (s.wakeByLockLoss e).path := by
  unfold State.wakeByLockLoss
  try dsimp only
  (repeat' split) <;> simp (maxDischargeDepth := 40) [h]

/-- Changes at most the Supervisor. -/
@[simp] theorem State.supBusy_frame (s : State) (k : Slot) :
    (s.supBusy k).run = s.run ∧ (s.supBusy k).path = s.path ∧ (s.supBusy k).rfc = s.rfc ∧
    (s.supBusy k).prof = s.prof ∧ (s.supBusy k).tooth = s.tooth ∧ (s.supBusy k).scan = s.scan ∧
    (s.supBusy k).motion = s.motion ∧ (s.supBusy k).rbc = s.rbc ∧ (s.supBusy k).ent = s.ent ∧
    (s.supBusy k).vlu = s.vlu ∧ (s.supBusy k).mem = s.mem ∧ (s.supBusy k).freeIndex = s.freeIndex ∧
    (s.supBusy k).pending = s.pending := by
  unfold State.supBusy
  try dsimp only
  (repeat' split) <;> simp

/-- Changes at most the Supervisor, the handed groups. -/
@[simp] theorem State.clearTrip_frame (s : State) (k : Slot) :
    (s.clearTrip k).run = s.run ∧ (s.clearTrip k).path.still = s.path.still ∧ (s.clearTrip k).rfc = s.rfc ∧
    (s.clearTrip k).prof = s.prof ∧ (s.clearTrip k).tooth = s.tooth ∧ (s.clearTrip k).scan = s.scan ∧
    (s.clearTrip k).motion = s.motion ∧ (s.clearTrip k).rbc = s.rbc ∧ (s.clearTrip k).ent = s.ent ∧
    (s.clearTrip k).vlu = s.vlu ∧ (s.clearTrip k).mem = s.mem ∧ (s.clearTrip k).freeIndex = s.freeIndex ∧
    (s.clearTrip k).pending = s.pending := by
  unfold State.clearTrip
  try dsimp only
  (repeat' split) <;> simp

@[simp] theorem State.clearTrip_grows (s : State) (k : Slot) {old : PathUnit} (h : Grows old s.path) :
    Grows old (s.clearTrip k).path := by
  unfold State.clearTrip
  try dsimp only
  (repeat' split) <;> simp (maxDischargeDepth := 40) [h]

/-- Changes at most the Supervisor, the handed groups. -/
@[simp] theorem State.tripClear_frame (s : State) (k : Slot) :
    (s.tripClear k).1.run = s.run ∧ (s.tripClear k).1.path.still = s.path.still ∧ (s.tripClear k).1.rfc = s.rfc ∧
    (s.tripClear k).1.prof = s.prof ∧ (s.tripClear k).1.tooth = s.tooth ∧ (s.tripClear k).1.scan = s.scan ∧
    (s.tripClear k).1.motion = s.motion ∧ (s.tripClear k).1.rbc = s.rbc ∧ (s.tripClear k).1.ent = s.ent ∧
    (s.tripClear k).1.vlu = s.vlu ∧ (s.tripClear k).1.mem = s.mem ∧ (s.tripClear k).1.freeIndex = s.freeIndex ∧
    (s.tripClear k).1.pending = s.pending := by
  unfold State.tripClear
  try dsimp only
  (repeat' split) <;> simp

@[simp] theorem State.tripClear_grows (s : State) (k : Slot) {old : PathUnit} (h : Grows old s.path) :
    Grows old (s.tripClear k).1.path := by
  unfold State.tripClear
  try dsimp only
  (repeat' split) <;> simp (maxDischargeDepth := 40) [h]

/-- Changes at most Run Control, the tooth channels, the scan unit, the valley link, the RFC, the Profile Unit, the Motion Unit, the Supervisor, the RBC, the handed groups. -/
@[simp] theorem State.handOver_frame (s : State) (m : WindowMap) (k : Slot) (r : SlotRec) (o : Operation) :
    (s.handOver m k r o).1.path.still = s.path.still ∧ (s.handOver m k r o).1.ent = s.ent ∧
    (s.handOver m k r o).1.mem = s.mem ∧ (s.handOver m k r o).1.freeIndex = s.freeIndex ∧
    (s.handOver m k r o).1.pending = s.pending := by
  cases o <;> simp [State.handOver]

@[simp] theorem State.handOver_grows (s : State) (m : WindowMap) (k : Slot) (r : SlotRec) (o : Operation) {old : PathUnit} (h : Grows old s.path) :
    Grows old (s.handOver m k r o).1.path := by
  cases o <;> simp [State.handOver, h]

/-- Changes at most Run Control, the Path Unit, the tooth channels, the scan unit, the valley link, the RFC, the Profile Unit, the Motion Unit, the Supervisor, the RBC, the entrances. -/
@[simp] theorem State.slotDispatch_frame (s : State) (k : Slot) :
    (s.slotDispatch k).mem = s.mem ∧ (s.slotDispatch k).freeIndex = s.freeIndex ∧
    (s.slotDispatch k).pending = s.pending := by
  unfold State.slotDispatch
  try dsimp only
  (repeat' split) <;> simp

/-- Changes at most the valley link, the handed groups. -/
@[simp] theorem State.copyAgain_frame (s : State) (b : Bool) :
    (s.copyAgain b).run = s.run ∧ (s.copyAgain b).path.still = s.path.still ∧ (s.copyAgain b).rfc = s.rfc ∧
    (s.copyAgain b).prof = s.prof ∧ (s.copyAgain b).tooth = s.tooth ∧ (s.copyAgain b).scan = s.scan ∧
    (s.copyAgain b).motion = s.motion ∧ (s.copyAgain b).sup = s.sup ∧ (s.copyAgain b).rbc = s.rbc ∧
    (s.copyAgain b).ent = s.ent ∧ (s.copyAgain b).mem = s.mem ∧ (s.copyAgain b).freeIndex = s.freeIndex ∧
    (s.copyAgain b).pending = s.pending := by
  unfold State.copyAgain
  try dsimp only
  (repeat' split) <;> simp

@[simp] theorem State.copyAgain_grows (s : State) (b : Bool) {old : PathUnit} (h : Grows old s.path) :
    Grows old (s.copyAgain b).path := by
  unfold State.copyAgain
  try dsimp only
  (repeat' split) <;> simp (maxDischargeDepth := 40) [h]

/-- Changes at most Run Control, the Path Unit, the Supervisor. -/
@[simp] theorem State.endSlot_frame (s : State) (k : Slot) :
    (s.endSlot k).rfc = s.rfc ∧ (s.endSlot k).prof = s.prof ∧ (s.endSlot k).tooth = s.tooth ∧
    (s.endSlot k).scan = s.scan ∧ (s.endSlot k).motion = s.motion ∧ (s.endSlot k).rbc = s.rbc ∧
    (s.endSlot k).ent = s.ent ∧ (s.endSlot k).vlu = s.vlu ∧ (s.endSlot k).mem = s.mem ∧
    (s.endSlot k).freeIndex = s.freeIndex ∧ (s.endSlot k).pending = s.pending := by
  unfold State.endSlot
  try dsimp only
  (repeat' split) <;> simp

/-- Slots ended one after another. -/
theorem endSlots_frame (xs : List Slot) (s : State) :
    (xs.foldl State.endSlot s).rfc = s.rfc ∧ (xs.foldl State.endSlot s).prof = s.prof ∧
    (xs.foldl State.endSlot s).tooth = s.tooth ∧ (xs.foldl State.endSlot s).scan = s.scan ∧
    (xs.foldl State.endSlot s).motion = s.motion ∧ (xs.foldl State.endSlot s).rbc = s.rbc ∧
    (xs.foldl State.endSlot s).ent = s.ent ∧ (xs.foldl State.endSlot s).vlu = s.vlu ∧
    (xs.foldl State.endSlot s).mem = s.mem ∧ (xs.foldl State.endSlot s).freeIndex = s.freeIndex ∧
    (xs.foldl State.endSlot s).pending = s.pending := by
  induction xs generalizing s with
  | nil => simp
  | cons x xs ih => simp [ih]

/-- Ring copies handed again one after another. -/
theorem copiesAgain_frame (xs : List Bool) (s : State) :
    (xs.foldl State.copyAgain s).run = s.run ∧ (xs.foldl State.copyAgain s).path.still = s.path.still ∧
    (xs.foldl State.copyAgain s).rfc = s.rfc ∧ (xs.foldl State.copyAgain s).prof = s.prof ∧
    (xs.foldl State.copyAgain s).tooth = s.tooth ∧ (xs.foldl State.copyAgain s).scan = s.scan ∧
    (xs.foldl State.copyAgain s).motion = s.motion ∧ (xs.foldl State.copyAgain s).sup = s.sup ∧
    (xs.foldl State.copyAgain s).rbc = s.rbc ∧ (xs.foldl State.copyAgain s).ent = s.ent ∧
    (xs.foldl State.copyAgain s).mem = s.mem ∧ (xs.foldl State.copyAgain s).freeIndex = s.freeIndex ∧
    (xs.foldl State.copyAgain s).pending = s.pending := by
  induction xs generalizing s with
  | nil => simp
  | cons x xs ih => simp [ih]

/-- Changes at most Run Control, the Path Unit, the Supervisor, the valley link. -/
@[simp] theorem State.pathAtCcr_frame (s : State) (m : WindowMap) :
    (s.pathAtCcr m).rfc = s.rfc ∧ (s.pathAtCcr m).prof = s.prof ∧ (s.pathAtCcr m).tooth = s.tooth ∧
    (s.pathAtCcr m).scan = s.scan ∧ (s.pathAtCcr m).motion = s.motion ∧ (s.pathAtCcr m).rbc = s.rbc ∧
    (s.pathAtCcr m).ent = s.ent ∧ (s.pathAtCcr m).mem = s.mem ∧ (s.pathAtCcr m).freeIndex = s.freeIndex ∧
    (s.pathAtCcr m).pending = s.pending := by
  unfold State.pathAtCcr
  simp [copiesAgain_frame, endSlots_frame]

/-- Changes at most the RBC, the handed groups. -/
@[simp] theorem State.brakeAtCcr_frame (s : State) :
    s.brakeAtCcr.run = s.run ∧ s.brakeAtCcr.path.still = s.path.still ∧ s.brakeAtCcr.rfc = s.rfc ∧
    s.brakeAtCcr.prof = s.prof ∧ s.brakeAtCcr.tooth = s.tooth ∧ s.brakeAtCcr.scan = s.scan ∧
    s.brakeAtCcr.motion = s.motion ∧ s.brakeAtCcr.sup = s.sup ∧ s.brakeAtCcr.ent = s.ent ∧ s.brakeAtCcr.vlu = s.vlu ∧
    s.brakeAtCcr.mem = s.mem ∧ s.brakeAtCcr.freeIndex = s.freeIndex ∧ s.brakeAtCcr.pending = s.pending := by
  unfold State.brakeAtCcr
  try dsimp only
  (repeat' split) <;> simp

@[simp] theorem State.brakeAtCcr_grows (s : State) {old : PathUnit} (h : Grows old s.path) :
    Grows old s.brakeAtCcr.path := by
  unfold State.brakeAtCcr
  try dsimp only
  (repeat' split) <;> simp (maxDischargeDepth := 40) [h]

/-- Changes at most the entrances. -/
@[simp] theorem State.entrancesAtCcr_frame (s : State) :
    s.entrancesAtCcr.run = s.run ∧ s.entrancesAtCcr.path = s.path ∧ s.entrancesAtCcr.rfc = s.rfc ∧
    s.entrancesAtCcr.prof = s.prof ∧ s.entrancesAtCcr.tooth = s.tooth ∧ s.entrancesAtCcr.scan = s.scan ∧
    s.entrancesAtCcr.motion = s.motion ∧ s.entrancesAtCcr.sup = s.sup ∧ s.entrancesAtCcr.rbc = s.rbc ∧
    s.entrancesAtCcr.vlu = s.vlu ∧ s.entrancesAtCcr.mem = s.mem ∧ s.entrancesAtCcr.freeIndex = s.freeIndex ∧
    s.entrancesAtCcr.pending = s.pending := by
  unfold State.entrancesAtCcr
  try dsimp only
  (repeat' split) <;> simp

/-- Changes at most the Supervisor, the Profile Unit, the waiting fills, the Motion Unit, the handed groups. -/
@[simp] theorem State.supAtCcr_frame (s : State) :
    s.supAtCcr.run = s.run ∧ s.supAtCcr.path.still = s.path.still ∧ s.supAtCcr.rfc.still = s.rfc.still ∧
    s.supAtCcr.tooth = s.tooth ∧ s.supAtCcr.scan = s.scan ∧ s.supAtCcr.rbc = s.rbc ∧ s.supAtCcr.ent = s.ent ∧
    s.supAtCcr.vlu = s.vlu ∧ s.supAtCcr.mem = s.mem ∧ s.supAtCcr.freeIndex = s.freeIndex ∧
    s.supAtCcr.pending = s.pending := by
  unfold State.supAtCcr
  try dsimp only
  (repeat' split) <;> simp

@[simp] theorem State.supAtCcr_grows (s : State) {old : PathUnit} (h : Grows old s.path) :
    Grows old s.supAtCcr.path := by
  unfold State.supAtCcr
  try dsimp only
  (repeat' split) <;> simp (maxDischargeDepth := 40) [h]

/-- Changes at most Run Control, the Path Unit, the RFC, the Profile Unit, the scan unit, the Motion Unit, the Supervisor, the RBC, the entrances, the valley link. -/
@[simp] theorem State.ccr_frame (s : State) :
    s.ccr.tooth = s.tooth ∧ s.ccr.mem = s.mem ∧ s.ccr.freeIndex = s.freeIndex ∧
    s.ccr.pending = s.pending := by
  unfold State.ccr
  try dsimp only
  (repeat' split) <;> simp

/-- Changes at most Run Control, the Path Unit, the RFC, the tooth channels, the scan unit, the Supervisor, the RBC, the entrances, the valley link. -/
@[simp] theorem State.lockLossEvent_frame (s b : State) (e : Entrance) :
    (s.lockLossEvent b e).prof = s.prof ∧ (s.lockLossEvent b e).motion = s.motion ∧
    (s.lockLossEvent b e).mem = s.mem ∧ (s.lockLossEvent b e).freeIndex = s.freeIndex ∧
    (s.lockLossEvent b e).pending = s.pending := by
  unfold State.lockLossEvent
  try dsimp only
  (repeat' split) <;> simp

/-- Changes at most Run Control, the Path Unit, the RFC, the tooth channels, the scan unit, the Supervisor, the RBC, the entrances, the valley link. -/
@[simp] theorem State.lockInput_frame (s : State) (e : Entrance) (l : Bool) :
    (s.lockInput e l).prof = s.prof ∧ (s.lockInput e l).motion = s.motion ∧ (s.lockInput e l).mem = s.mem ∧
    (s.lockInput e l).freeIndex = s.freeIndex ∧ (s.lockInput e l).pending = s.pending := by
  unfold State.lockInput
  try dsimp only
  (repeat' split) <;> simp

/-- Changes at most the Path Unit, the RFC, the Profile Unit, the Motion Unit, the Supervisor, the RBC, the entrances, the valley link, the free-value counter. -/
@[simp] theorem State.frameReceived_frame (s : State) (us : List Half) (p : Bool) :
    (s.frameReceived us p).run = s.run ∧ (s.frameReceived us p).tooth = s.tooth ∧
    (s.frameReceived us p).scan = s.scan ∧ (s.frameReceived us p).mem = s.mem ∧
    (s.frameReceived us p).pending = s.pending := by
  unfold State.frameReceived
  try dsimp only
  (repeat' split) <;> simp

/-- Changes at most the valley link, the handed groups. -/
@[simp] theorem State.faultLink_frame (s : State) :
    s.faultLink.run = s.run ∧ s.faultLink.path.still = s.path.still ∧ s.faultLink.rfc = s.rfc ∧
    s.faultLink.prof = s.prof ∧ s.faultLink.tooth = s.tooth ∧ s.faultLink.scan = s.scan ∧
    s.faultLink.motion = s.motion ∧ s.faultLink.sup = s.sup ∧ s.faultLink.rbc = s.rbc ∧ s.faultLink.ent = s.ent ∧
    s.faultLink.mem = s.mem ∧ s.faultLink.freeIndex = s.freeIndex ∧ s.faultLink.pending = s.pending := by
  unfold State.faultLink
  try dsimp only
  (repeat' split) <;> simp

@[simp] theorem State.faultLink_grows (s : State) {old : PathUnit} (h : Grows old s.path) :
    Grows old s.faultLink.path := by
  unfold State.faultLink
  try dsimp only
  (repeat' split) <;> simp (maxDischargeDepth := 40) [h]

/-- Changes at most the valley link, the handed groups. -/
@[simp] theorem State.clearFault_frame (s : State) :
    s.clearFault.run = s.run ∧ s.clearFault.path.still = s.path.still ∧ s.clearFault.rfc = s.rfc ∧
    s.clearFault.prof = s.prof ∧ s.clearFault.tooth = s.tooth ∧ s.clearFault.scan = s.scan ∧
    s.clearFault.motion = s.motion ∧ s.clearFault.sup = s.sup ∧ s.clearFault.rbc = s.rbc ∧ s.clearFault.ent = s.ent ∧
    s.clearFault.mem = s.mem ∧ s.clearFault.freeIndex = s.freeIndex ∧ s.clearFault.pending = s.pending := by
  unfold State.clearFault
  try dsimp only
  (repeat' split) <;> simp

@[simp] theorem State.clearFault_grows (s : State) {old : PathUnit} (h : Grows old s.path) :
    Grows old s.clearFault.path := by
  unfold State.clearFault
  try dsimp only
  (repeat' split) <;> simp (maxDischargeDepth := 40) [h]

/-- Changes at most the valley link, the handed groups. -/
@[simp] theorem State.expireAuthority_frame (s : State) (a : Authority) :
    (s.expireAuthority a).run = s.run ∧ (s.expireAuthority a).path.still = s.path.still ∧
    (s.expireAuthority a).rfc = s.rfc ∧ (s.expireAuthority a).prof = s.prof ∧ (s.expireAuthority a).tooth = s.tooth ∧
    (s.expireAuthority a).scan = s.scan ∧ (s.expireAuthority a).motion = s.motion ∧
    (s.expireAuthority a).sup = s.sup ∧ (s.expireAuthority a).rbc = s.rbc ∧ (s.expireAuthority a).ent = s.ent ∧
    (s.expireAuthority a).mem = s.mem ∧ (s.expireAuthority a).freeIndex = s.freeIndex ∧
    (s.expireAuthority a).pending = s.pending := by
  unfold State.expireAuthority
  try dsimp only
  (repeat' split) <;> simp

@[simp] theorem State.expireAuthority_grows (s : State) (a : Authority) {old : PathUnit} (h : Grows old s.path) :
    Grows old (s.expireAuthority a).path := by
  unfold State.expireAuthority
  try dsimp only
  (repeat' split) <;> simp (maxDischargeDepth := 40) [h]

/-- Power-on keeps memory, the queue and the free values; everything else is as after reset but for the pins (R40). -/
@[simp] theorem State.powerOn_frame (s : State) :
    s.powerOn.mem = s.mem ∧ s.powerOn.pending = s.pending ∧ s.powerOn.freeIndex = s.freeIndex := ⟨rfl, rfl, rfl⟩

/-! ### The canonical form of memory -/

theorem State.enterConfigFault_wf {s : State} (h : Memory.wf s.mem = true) : Memory.wf s.enterConfigFault.mem = true := by
  unfold State.enterConfigFault
  dsimp only
  split
  · exact h
  · exact State.submit_wf (by exact h) _

theorem State.configReadEnds_wf {s : State} (h : Memory.wf s.mem = true) (k : Nat) (b : List Byte) :
    Memory.wf (s.configReadEnds k b).mem = true := by
  unfold State.configReadEnds
  dsimp only
  (repeat' split) <;> first
    | exact h
    | simpa using h
    | exact State.enterConfigFault_wf h

theorem State.enterRun_wf {s : State} (h : Memory.wf s.mem = true) : Memory.wf s.enterRun.mem = true := by
  unfold State.enterRun
  dsimp only
  split
  · simpa using h
  · exact State.busAccess_wf (by simpa using h) _

end Sys2Proof.Machine
end

