-- ==== Sys2Proof/Laws/State.lean ====
section
/-! SUPPORT. The fields of the state after each named update of it, and the containers of the state: a value put in a
place is read back there and nowhere else. -/

namespace Sys2Proof.Machine

/-! ### The queue and the tick -/

@[simp] theorem State.withPending_run (s : State) (q : List Instr) : (s.withPending q).run = s.run := rfl
@[simp] theorem State.withPending_path (s : State) (q : List Instr) : (s.withPending q).path = s.path := rfl
@[simp] theorem State.withPending_rfc (s : State) (q : List Instr) : (s.withPending q).rfc = s.rfc := rfl
@[simp] theorem State.withPending_prof (s : State) (q : List Instr) : (s.withPending q).prof = s.prof := rfl
@[simp] theorem State.withPending_tooth (s : State) (q : List Instr) : (s.withPending q).tooth = s.tooth := rfl
@[simp] theorem State.withPending_scan (s : State) (q : List Instr) : (s.withPending q).scan = s.scan := rfl
@[simp] theorem State.withPending_motion (s : State) (q : List Instr) : (s.withPending q).motion = s.motion := rfl
@[simp] theorem State.withPending_sup (s : State) (q : List Instr) : (s.withPending q).sup = s.sup := rfl
@[simp] theorem State.withPending_rbc (s : State) (q : List Instr) : (s.withPending q).rbc = s.rbc := rfl
@[simp] theorem State.withPending_ent (s : State) (q : List Instr) : (s.withPending q).ent = s.ent := rfl
@[simp] theorem State.withPending_vlu (s : State) (q : List Instr) : (s.withPending q).vlu = s.vlu := rfl
@[simp] theorem State.withPending_mem (s : State) (q : List Instr) : (s.withPending q).mem = s.mem := rfl
@[simp] theorem State.withPending_freeIndex (s : State) (q : List Instr) : (s.withPending q).freeIndex = s.freeIndex := rfl
@[simp] theorem State.withPending_pending (s : State) (q : List Instr) : (s.withPending q).pending = q := rfl

@[simp] theorem State.tick_run (s : State) : s.tick.run = { s.run with timeBase := s.run.timeBase + 1 } := rfl
@[simp] theorem State.tick_path (s : State) : s.tick.path = s.path := rfl
@[simp] theorem State.tick_rfc (s : State) : s.tick.rfc = s.rfc := rfl
@[simp] theorem State.tick_prof (s : State) : s.tick.prof = s.prof := rfl
@[simp] theorem State.tick_tooth (s : State) : s.tick.tooth = s.tooth := rfl
@[simp] theorem State.tick_scan (s : State) : s.tick.scan = s.scan := rfl
@[simp] theorem State.tick_motion (s : State) : s.tick.motion = s.motion := rfl
@[simp] theorem State.tick_sup (s : State) : s.tick.sup = s.sup := rfl
@[simp] theorem State.tick_rbc (s : State) : s.tick.rbc = s.rbc := rfl
@[simp] theorem State.tick_ent (s : State) : s.tick.ent = s.ent := rfl
@[simp] theorem State.tick_vlu (s : State) : s.tick.vlu = s.vlu := rfl
@[simp] theorem State.tick_mem (s : State) : s.tick.mem = s.mem := rfl
@[simp] theorem State.tick_freeIndex (s : State) : s.tick.freeIndex = s.freeIndex := rfl
@[simp] theorem State.tick_pending (s : State) : s.tick.pending = s.pending := rfl

/-! ### The updates that hand something over -/

@[simp] theorem State.hand_handed (s : State) (g : Group) : (s.hand g).path.handed = s.path.handed ++ [g] := rfl
@[simp] theorem State.handEach_handed (s : State) (es : List QEntry) :
    (s.handEach es).path.handed = s.path.handed ++ es.map fun e => .accesses [e] := rfl
@[simp] theorem State.noticeWords_handed (s : State) (u : UnitId) (row : Nat) (sev : Severity) (w2 w3 : Word) :
    (s.noticeWords u row sev w2 w3).path.handed =
      s.path.handed ++ [.notice ⟨u.code * 256 + row, u.code, sev, w2, w3, 0⟩] := rfl
@[simp] theorem State.drawn_freeIndex (s : State) : s.drawn.freeIndex = s.freeIndex + 1 := rfl
@[simp] theorem State.setSlot_slots (s : State) (k : Slot) (r : SlotRec) :
    (s.setSlot k r).path.slots = s.path.slots.set k r := rfl

/-- A unit that only hands groups leaves every register of the Path Unit. -/
theorem PathUnit.still_eq {p q : PathUnit} (h : p.still = q.still) : p = { q with handed := p.handed } := by
  cases p
  cases q
  simp only [PathUnit.still, PathUnit.mk.injEq] at h
  simp [h]

/-- What asks only for fills leaves every other register of the RFC. -/
theorem RfcUnit.still_eq {p q : RfcUnit} (h : p.still = q.still) : p = { q with fills := p.fills, uncached := p.uncached } := by
  cases p
  cases q
  simp only [RfcUnit.still, RfcUnit.mk.injEq] at h
  simp [h]

/-- The registers of the Path Unit that a unit which only hands groups leaves. -/
theorem PathUnit.still_fields {p q : PathUnit} (h : p.still = q.still) :
    p.map = q.map ∧ p.queue = q.queue ∧ p.entering = q.entering ∧ p.waiters = q.waiters ∧ p.passedOver = q.passedOver ∧
      p.allocated = q.allocated ∧ p.published = q.published ∧ p.noticeConsumer = q.noticeConsumer ∧ p.inboundConsumer = q.inboundConsumer ∧
      p.outboundProducer = q.outboundProducer ∧ p.inboundWritten = q.inboundWritten ∧
      p.outboundWritten = q.outboundWritten ∧ p.dropped = q.dropped ∧ p.slots = q.slots ∧ p.nextGo = q.nextGo ∧
      p.held = q.held ∧ p.access = q.access ∧ p.portBusy = q.portBusy ∧ p.busData = q.busData := by
  rw [PathUnit.still_eq h]
  simp

/-- The registers of the RFC that what asks only for fills leaves. -/
theorem RfcUnit.still_fields {p q : RfcUnit} (h : p.still = q.still) :
    p.inFlight = q.inFlight ∧ p.items = q.items ∧ p.current = q.current ∧ p.lockout = q.lockout ∧
      p.activeFill = q.activeFill ∧ p.lineBuffer = q.lineBuffer ∧ p.pageBuffer = q.pageBuffer ∧
      p.statusByte = q.statusByte ∧ p.store = q.store ∧ p.storeValid = q.storeValid := by
  rw [RfcUnit.still_eq h]
  simp

/-! ### Containers -/

@[simp] theorem Four.get_set_same {α : Type} (f : Four α) (i : Fin 4) (v : α) : (f.set i v).get i = v := by
  match i with
  | 0 => rfl
  | 1 => rfl
  | 2 => rfl
  | 3 => rfl

theorem Four.get_set_other {α : Type} (f : Four α) {i j : Fin 4} (h : j ≠ i) (v : α) : (f.set i v).get j = f.get j := by
  match i, j with
  | 0, 0 => exact absurd rfl h
  | 1, 1 => exact absurd rfl h
  | 2, 2 => exact absurd rfl h
  | 3, 3 => exact absurd rfl h
  | 0, 1 => rfl
  | 0, 2 => rfl
  | 0, 3 => rfl
  | 1, 0 => rfl
  | 1, 2 => rfl
  | 1, 3 => rfl
  | 2, 0 => rfl
  | 2, 1 => rfl
  | 2, 3 => rfl
  | 3, 0 => rfl
  | 3, 1 => rfl
  | 3, 2 => rfl

@[simp] theorem Four.get_map {α β : Type} (f : Four α) (g : α → β) (i : Fin 4) : (f.map g).get i = g (f.get i) := by
  match i with
  | 0 => rfl
  | 1 => rfl
  | 2 => rfl
  | 3 => rfl

@[simp] theorem PerChannel.get_set_same {α : Type} (p : PerChannel α) (c : Channel) (v : α) : (p.set c v).get c = v := by
  cases c <;> rfl

theorem PerChannel.get_set_other {α : Type} (p : PerChannel α) {c d : Channel} (h : d ≠ c) (v : α) :
    (p.set c v).get d = p.get d := by
  cases c <;> cases d <;> first | rfl | exact absurd rfl h

@[simp] theorem PerChannel.get_map {α β : Type} (p : PerChannel α) (f : α → β) (c : Channel) :
    (p.map f).get c = f (p.get c) := by
  cases c <;> rfl

@[simp] theorem State.setEntrance_same (s : State) (e : Entrance) (r : EntranceRec) :
    (s.setEntrance e r).entrance e = r := Four.get_set_same _ _ _

theorem State.setEntrance_other (s : State) {e d : Entrance} (h : d ≠ e) (r : EntranceRec) :
    (s.setEntrance e r).entrance d = s.entrance d := Four.get_set_other _ h _

end Sys2Proof.Machine
end

