-- ==== Sys2Proof/Laws/Access.lean ====
section
/-! SUPPORT. One access of the car computer while it is served: where it goes, and what a stored guarded write leaves. -/

namespace Sys2Proof.Safety

open Sys2Proof.Machine

/-- In service the part is in RUN or STABLED. -/
theorem inService_cases {s : State} (h : s.inService = true) : s.run.runState = .run ∨ s.run.runState = .stabled := by
  unfold State.inService at h; revert h; cases s.run.runState <;> simp

/-- An access of a served computer is classified at once (R165). -/
theorem busAccess_served {s : State} {m} (h : Serving s m) (a : Access) : s.busAccess a = if a.isWrite then s.busWrite m a else s.busRead m a := by
  obtain ⟨h1,h2,h3,h4,-⟩ := h
  unfold State.busAccess State.busServed
  rw [h3,h4,h2]
  rcases inService_cases h1 with h | h <;> rw [h] <;> rfl

/-- A full-word write to a guarded word goes to its owner (R167). -/
theorem busWrite_guarded {s : State} {m w} {addr : Addr} (v : Word) (h : classify m addr = .guarded w) :
   s.busWrite m ⟨addr, allLanes, true, v⟩ = s.guardedWrite w ⟨addr, allLanes, true, v⟩ := by
  unfold State.busWrite
  rw [h]; simp

/-- The reactions of an event only hand groups: of the path they change the handed groups alone. -/
theorem react_path {s b : State} {cs g} : (s.react b cs g).path = { s.path with handed := (s.react b cs g).path.handed } :=
  PathUnit.still_eq (by simp)

/-- A write that joins the arbitration is granted at once on a free port, and waits on a busy one (R169). -/
theorem submit_joins {s : State} (hp : PortIdle s) (a : Access) (ha : a.isWrite = true) :
   (s.path.portBusy = false → s.submit a = { s with mem := Memory.writeLanes s.mem a.addr a.lanes a.data, path := {s.path with access := none, portBusy := true} }) ∧
   (s.path.portBusy = true → s.submit a = { s with path := {s.path with access := some a} }) := by
  constructor
  · intro h
    obtain ⟨h1,h2,h3⟩ := hp h
    unfold State.submit State.grant
    simp [h, h2, State.grantAccess, State.access, ha]
  · intro h
    unfold State.submit State.grant
    simp [h]

/-- Nothing waits for a free port while no entry and no access has joined. -/
theorem portIdle_of {s t : State} (hp : PortIdle s) (h1 : t.path.portBusy = s.path.portBusy) (h2 : t.path.access = s.path.access)
  (h3 : s.path.queue = [] → s.path.entering = [] → t.path.queue = [] ∧ t.path.entering = []) : PortIdle t := by
  intro h
  rw [h1] at h
  obtain ⟨a,b,c⟩ := hp h
  exact ⟨h2.trans a, h3 b c⟩

/-- Withdrawing a rewrite filters the queue, the entering group, the waiters and the handed groups, and the entering group takes the places
that fall free (R168). -/
theorem dropRewrite_path (s : State) (w) : (s.dropRewrite w).path = { s.path with
      queue := s.path.queue.filter (QEntry.keepsApart w)
        ++ (s.path.entering.filter (QEntry.keepsApart w)).take (8 - (s.path.queue.filter (QEntry.keepsApart w)).length)
      entering := (s.path.entering.filter (QEntry.keepsApart w)).drop (8 - (s.path.queue.filter (QEntry.keepsApart w)).length)
      waiters := s.path.waiters.filter (Group.keepsApart w)
      handed := s.path.handed.filter (Group.keepsApart w) } := by
  unfold State.dropRewrite State.pushEntering; simp

/-- The reactions of a stored write leave nothing waiting for a free port. -/
theorem portIdle_stored {u s b: State} (hp : PortIdle s) (hu : u.path.still = s.path.still) (w : Guarded) (g : Bool) : PortIdle ((u.dropRewrite w).react b [] g) := by
  refine portIdle_of hp ?_ ?_ ?_
  · rw [react_path, dropRewrite_path, PathUnit.still_eq hu]
  · rw [react_path, dropRewrite_path, PathUnit.still_eq hu]
  · rw [react_path, dropRewrite_path, PathUnit.still_eq hu]; intro h h'; simp [h, h']

/-- A stored guarded write: it joins the arbitration with its value, and beside the path and memory the state is that
of the reactions (R167). -/
theorem storeGuarded_facts {u s : State} (hp : PortIdle s) (hu : u.path.still = s.path.still) (hm : u.mem = s.mem) (b : State) (w : Guarded) (addr : Addr) (d v : Word) (g : Bool) :
   WriteJoins s (u.storeGuarded b w ⟨addr, allLanes, true, d⟩ v g) addr v ∧
   ∃ p m, u.storeGuarded b w ⟨addr, allLanes, true, d⟩ v g = { (u.dropRewrite w).react b [] g with path := p, mem := m } := by
  have hq := portIdle_stored (b := b) hp hu w g
  have hb : ((u.dropRewrite w).react b [] g).path.portBusy = s.path.portBusy := by
    rw [react_path, dropRewrite_path, PathUnit.still_eq hu]
  have hj := submit_joins hq ⟨addr, allLanes, true, v⟩ rfl
  have hmem : ((u.dropRewrite w).react b [] g).mem = s.mem := by simp [hm]
  unfold State.storeGuarded
  by_cases hbusy : s.path.portBusy = true
  · have := hj.2 (hb.trans hbusy)
    simp only [] at this ⊢
    rw [this]
    refine ⟨⟨fun h => absurd hbusy (by simp [h]), fun _ => ⟨rfl, hmem⟩⟩, _, _, rfl⟩
  · have hf : s.path.portBusy = false := by simpa using hbusy
    have := hj.1 (hb.trans hf)
    simp only [] at this ⊢
    rw [this]
    refine ⟨⟨fun _ => ⟨rfl, rfl, ?_⟩, fun h => absurd h hbusy⟩, _, _, rfl⟩
    rw [hmem]; rfl

end Sys2Proof.Safety
end

