-- ==== Sys2Proof/WellFormed.lean ====
section
/-! DEFINITION. Which terms of `Instr` an event of the part can be: the byte counts of the flash transactions (R25),
full-word writes at word addresses (R124, R167), at least one enabled lane, an operation code that names none for
SLOT_BAD_OPERATION, and the kind byte of each row's frame (11.6). The machine is total: it gives a meaning to an
ill-formed term as well (log 8). -/

namespace Sys2Proof

/-- The address of a word: a multiple of 4. -/
def wordAligned (addr : Addr) : Bool := addr.toNat % 4 == 0

/-- The units of a frame of a given kind: 4 to 28 of them, with the kind's code in unit 0 (11.6). -/
def frameOfKind (k : InboundKind) (units : List Half) : Bool :=
  decide (4 ≤ units.length) && decide (units.length ≤ 28)
    && ((units.headD 0).toNat / 256 == k.code)

/-- The checks, constructor by constructor. -/
def WellFormed : Instr → Bool
  | .powerOnReset => true
  | .ccr last => decide (last.length ≤ 1)
  | .configRead data => data.length == 32
  | .loadingLimit => true
  | .enterRun => true
  | .plainMemoryAccess _ lanes _ _ => lanes != 0
  | .absorbedWrite _ lanes _ => lanes != 0
  | .direction addr _ => wordAligned addr
  | .traction addr _ => wordAligned addr
  | .rackBrakeRelease addr => wordAligned addr
  | .rackBrakeApply addr => wordAligned addr
  | .serviceBrake addr _ => wordAligned addr
  | .openRequest addr => wordAligned addr
  | .closeRequest addr => wordAligned addr
  | .noneRequest addr => wordAligned addr
  | .isolate addr => wordAligned addr
  | .restore addr => wordAligned addr
  | .slotControlClear addr _ => wordAligned addr
  | .slotBadOperation addr op _ => wordAligned addr && (Operation.ofCode op.toNat).isNone
  | .flashRead addr _ => wordAligned addr
  | .flashProgram addr _ => wordAligned addr
  | .flashErase addr _ => wordAligned addr
  | .profileInvalidate addr _ => wordAligned addr
  | .profileRead addr _ => wordAligned addr
  | .measure addr _ => wordAligned addr
  | .tripClear addr _ => wordAligned addr
  | .brakeTest addr _ => wordAligned addr
  | .stable addr _ => wordAligned addr
  | .resume addr _ => wordAligned addr
  | .slotDispatch _ => true
  | .consumerIndexWrite addr _ => wordAligned addr
  | .outboundProducerWrite addr _ => wordAligned addr
  | .imageRead _ lanes => lanes != 0
  | .groupEntersQueue => true
  | .memoryPortGrant => true
  | .fill data => data.length == 32
  | .serviceRead data => decide (data.length ≤ 4)
  | .programDataRead => true
  | .writeEnable => true
  | .programOrEraseEnd => true
  | .pollReady => true
  | .statusPoll _ => true
  | .phaseChange _ _ _ => true
  | .toothIntervalExpiry _ => true
  | .standstill => true
  | .markerEvent _ => true
  | .scanStart => true
  | .conversionEnd _ => true
  | .releaseTimeout => true
  | .stageReached => true
  | .applyWindowExpiry => true
  | .pressureLoss _ => true
  | .testStepExpiry => true
  | .closedLockedInput _ _ => true
  | .openEndInput _ _ => true
  | .obstructionInput _ _ => true
  | .settleExpiry _ => true
  | .entranceMotionTimeout _ => true
  | .entranceHeldExpired _ => true
  | .frameRejected _ _ => true
  | .authority units => frameOfKind .authority units
  | .restrictionSet units => frameOfKind .restrictionSet units
  | .restrictionLift units => frameOfKind .restrictionLift units
  | .stopOrder units => frameOfKind .stopOrder units
  | .stopRelease units => frameOfKind .stopRelease units
  | .entrancePermit units => frameOfKind .entrancePermit units
  | .heartbeat units => frameOfKind .heartbeat units
  | .text units => frameOfKind .text units
  | .linkOverrun => true
  | .linkConflict => true
  | .resetWaitEnd => true
  | .linkFault => true
  | .linkFaultCleared => true
  | .sendAttempt => true
  | .frameSent => true
  | .outboundSlotRead => true
  | .authorityExpiry => true
  | .permitExpiry => true
  | .linkLossExpiry => true
  | .shadowExpiry => true
  | .repeatFrame units => decide (4 ≤ units.length) && decide (units.length ≤ 28)

end Sys2Proof
end

