-- ==== Sys2Proof/Laws/PerInstr.lean ====
section
/-! SUPPORT. What a well-formed command carries, command by command: a word write addresses a word, an access enables a
lane, a record transaction brings 32 bytes, a frame has 4 to 28 units. -/

namespace Sys2Proof.Laws.WellFormedness

/-- The address of a command that writes a whole word. -/
def wordAddress : Instr → Option Addr
  | .direction addr _ => some addr
  | .traction addr _ => some addr
  | .rackBrakeRelease addr => some addr
  | .rackBrakeApply addr => some addr
  | .serviceBrake addr _ => some addr
  | .openRequest addr => some addr
  | .closeRequest addr => some addr
  | .noneRequest addr => some addr
  | .isolate addr => some addr
  | .restore addr => some addr
  | .slotControlClear addr _ => some addr
  | .slotBadOperation addr _ _ => some addr
  | .flashRead addr _ => some addr
  | .flashProgram addr _ => some addr
  | .flashErase addr _ => some addr
  | .profileInvalidate addr _ => some addr
  | .profileRead addr _ => some addr
  | .measure addr _ => some addr
  | .tripClear addr _ => some addr
  | .brakeTest addr _ => some addr
  | .stable addr _ => some addr
  | .resume addr _ => some addr
  | .consumerIndexWrite addr _ => some addr
  | .outboundProducerWrite addr _ => some addr
  | _ => none

/-- The lanes of a command that names them. -/
def lanes : Instr → Option Lanes
  | .plainMemoryAccess _ lanes _ _ => some lanes
  | .absorbedWrite _ lanes _ => some lanes
  | .imageRead _ lanes => some lanes
  | _ => none

/-- The bytes of a transaction that reads a record or a piece of the block. -/
def recordBytes : Instr → Option (List Byte)
  | .configRead data => some data
  | .fill data => some data
  | _ => none

/-- The units of a command that brings a frame of a kind or a repeat. -/
def frameUnits : Instr → Option (List Half)
  | .authority units => some units
  | .restrictionSet units => some units
  | .restrictionLift units => some units
  | .stopOrder units => some units
  | .stopRelease units => some units
  | .entrancePermit units => some units
  | .heartbeat units => some units
  | .text units => some units
  | .repeatFrame units => some units
  | _ => none

/-- What well-formedness says of a command. -/
def Statement (i : Instr) : Prop :=
  WellFormed i = true →
    (∀ a, wordAddress i = some a → a.toNat % 4 = 0) ∧ (∀ l, lanes i = some l → l ≠ 0)
      ∧ (∀ b, recordBytes i = some b → b.length = 32)
      ∧ ∀ u, frameUnits i = some u → 4 ≤ u.length ∧ u.length ≤ 28

/-- A command that carries none of the four. -/
theorem statement_of_none {i : Instr} (h1 : wordAddress i = none) (h2 : lanes i = none) (h3 : recordBytes i = none)
    (h4 : frameUnits i = none) : Statement i := by
  intro _; simp [h1, h2, h3, h4]

/-- A command that writes a word. -/
theorem statement_of_word {i : Instr} {a : Addr} (h1 : wordAddress i = some a) (h2 : lanes i = none)
    (h3 : recordBytes i = none) (h4 : frameUnits i = none) (h : WellFormed i = true → wordAligned a = true) :
    Statement i := by
  intro w
  have := h w
  simp only [wordAligned, beq_iff_eq] at this
  refine ⟨?_, by simp [h2], by simp [h3], by simp [h4]⟩
  intro b hb; rw [h1] at hb; injection hb with hb; rw [← hb]; exact this

/-- A command that brings a frame. -/
theorem statement_of_frame {i : Instr} {u : List Half} (h1 : wordAddress i = none) (h2 : lanes i = none)
    (h3 : recordBytes i = none) (h4 : frameUnits i = some u)
    (h : WellFormed i = true → 4 ≤ u.length ∧ u.length ≤ 28) : Statement i := by
  intro w
  refine ⟨by simp [h1], by simp [h2], by simp [h3], ?_⟩
  intro v hv; rw [h4] at hv; injection hv with hv; rw [← hv]; exact h w

/-- The length check of a frame of a kind. -/
theorem frameOfKind_length {k : InboundKind} {u : List Half} (h : frameOfKind k u = true) : 4 ≤ u.length ∧ u.length ≤ 28 := by
  simp only [frameOfKind, Bool.and_eq_true, decide_eq_true_eq] at h
  exact h.1

theorem powerOnReset : Statement .powerOnReset := statement_of_none rfl rfl rfl rfl

theorem ccr (last : List Byte) : Statement (.ccr last) := statement_of_none rfl rfl rfl rfl

theorem configRead (data : List Byte) : Statement (.configRead data) := by
  intro h; simp [WellFormed] at h; simp [wordAddress, lanes, WellFormedness.recordBytes, frameUnits, h]

theorem loadingLimit : Statement .loadingLimit := statement_of_none rfl rfl rfl rfl

theorem enterRun : Statement .enterRun := statement_of_none rfl rfl rfl rfl

theorem plainMemoryAccess (addr : Addr) (lanes : Lanes) (isWrite : Bool) (data : Word) : Statement (.plainMemoryAccess addr lanes isWrite data) := by
  intro h; simp [WellFormed] at h; simp [wordAddress, WellFormedness.lanes, recordBytes, frameUnits, h]

theorem absorbedWrite (addr : Addr) (lanes : Lanes) (data : Word) : Statement (.absorbedWrite addr lanes data) := by
  intro h; simp [WellFormed] at h; simp [wordAddress, WellFormedness.lanes, recordBytes, frameUnits, h]

theorem direction (addr : Addr) (data : Word) : Statement (.direction addr data) := statement_of_word rfl rfl rfl rfl (fun h => h)

theorem traction (addr : Addr) (data : Word) : Statement (.traction addr data) := statement_of_word rfl rfl rfl rfl (fun h => h)

theorem rackBrakeRelease (addr : Addr) : Statement (.rackBrakeRelease addr) := statement_of_word rfl rfl rfl rfl (fun h => h)

theorem rackBrakeApply (addr : Addr) : Statement (.rackBrakeApply addr) := statement_of_word rfl rfl rfl rfl (fun h => h)

theorem serviceBrake (addr : Addr) (data : Word) : Statement (.serviceBrake addr data) := statement_of_word rfl rfl rfl rfl (fun h => h)

theorem openRequest (addr : Addr) : Statement (.openRequest addr) := statement_of_word rfl rfl rfl rfl (fun h => h)

theorem closeRequest (addr : Addr) : Statement (.closeRequest addr) := statement_of_word rfl rfl rfl rfl (fun h => h)

theorem noneRequest (addr : Addr) : Statement (.noneRequest addr) := statement_of_word rfl rfl rfl rfl (fun h => h)

theorem isolate (addr : Addr) : Statement (.isolate addr) := statement_of_word rfl rfl rfl rfl (fun h => h)

theorem restore (addr : Addr) : Statement (.restore addr) := statement_of_word rfl rfl rfl rfl (fun h => h)

theorem slotControlClear (addr : Addr) (rest : Word) : Statement (.slotControlClear addr rest) := statement_of_word rfl rfl rfl rfl (fun h => h)

theorem slotBadOperation (addr : Addr) (op : Byte) (rest : Word) : Statement (.slotBadOperation addr op rest) := statement_of_word rfl rfl rfl rfl (fun h => (Bool.and_eq_true_iff.1 h).1)

theorem flashRead (addr : Addr) (rest : Word) : Statement (.flashRead addr rest) := statement_of_word rfl rfl rfl rfl (fun h => h)

theorem flashProgram (addr : Addr) (rest : Word) : Statement (.flashProgram addr rest) := statement_of_word rfl rfl rfl rfl (fun h => h)

theorem flashErase (addr : Addr) (rest : Word) : Statement (.flashErase addr rest) := statement_of_word rfl rfl rfl rfl (fun h => h)

theorem profileInvalidate (addr : Addr) (rest : Word) : Statement (.profileInvalidate addr rest) := statement_of_word rfl rfl rfl rfl (fun h => h)

theorem profileRead (addr : Addr) (rest : Word) : Statement (.profileRead addr rest) := statement_of_word rfl rfl rfl rfl (fun h => h)

theorem measure (addr : Addr) (rest : Word) : Statement (.measure addr rest) := statement_of_word rfl rfl rfl rfl (fun h => h)

theorem tripClear (addr : Addr) (rest : Word) : Statement (.tripClear addr rest) := statement_of_word rfl rfl rfl rfl (fun h => h)

theorem brakeTest (addr : Addr) (rest : Word) : Statement (.brakeTest addr rest) := statement_of_word rfl rfl rfl rfl (fun h => h)

theorem stable (addr : Addr) (rest : Word) : Statement (.stable addr rest) := statement_of_word rfl rfl rfl rfl (fun h => h)

theorem resume (addr : Addr) (rest : Word) : Statement (.resume addr rest) := statement_of_word rfl rfl rfl rfl (fun h => h)

theorem slotDispatch (slot : Slot) : Statement (.slotDispatch slot) := statement_of_none rfl rfl rfl rfl

theorem consumerIndexWrite (addr : Addr) (data : Word) : Statement (.consumerIndexWrite addr data) := statement_of_word rfl rfl rfl rfl (fun h => h)

theorem outboundProducerWrite (addr : Addr) (data : Word) : Statement (.outboundProducerWrite addr data) := statement_of_word rfl rfl rfl rfl (fun h => h)

theorem imageRead (addr : Addr) (lanes : Lanes) : Statement (.imageRead addr lanes) := by
  intro h; simp [WellFormed] at h; simp [wordAddress, WellFormedness.lanes, recordBytes, frameUnits, h]

theorem groupEntersQueue : Statement .groupEntersQueue := statement_of_none rfl rfl rfl rfl

theorem memoryPortGrant : Statement .memoryPortGrant := statement_of_none rfl rfl rfl rfl

theorem fill (data : List Byte) : Statement (.fill data) := by
  intro h; simp [WellFormed] at h; simp [wordAddress, lanes, WellFormedness.recordBytes, frameUnits, h]

theorem serviceRead (data : List Byte) : Statement (.serviceRead data) := statement_of_none rfl rfl rfl rfl

theorem programDataRead : Statement .programDataRead := statement_of_none rfl rfl rfl rfl

theorem writeEnable : Statement .writeEnable := statement_of_none rfl rfl rfl rfl

theorem programOrEraseEnd : Statement .programOrEraseEnd := statement_of_none rfl rfl rfl rfl

theorem pollReady : Statement .pollReady := statement_of_none rfl rfl rfl rfl

theorem statusPoll (status : Byte) : Statement (.statusPoll status) := statement_of_none rfl rfl rfl rfl

theorem phaseChange (channel : Channel) (input1 input2 : InputLevel) : Statement (.phaseChange channel input1 input2) := statement_of_none rfl rfl rfl rfl

theorem toothIntervalExpiry (channel : Channel) : Statement (.toothIntervalExpiry channel) := statement_of_none rfl rfl rfl rfl

theorem standstill : Statement .standstill := statement_of_none rfl rfl rfl rfl

theorem markerEvent (code : BitVec 10) : Statement (.markerEvent code) := statement_of_none rfl rfl rfl rfl

theorem scanStart : Statement .scanStart := statement_of_none rfl rfl rfl rfl

theorem conversionEnd (code : BitVec 12) : Statement (.conversionEnd code) := statement_of_none rfl rfl rfl rfl

theorem releaseTimeout : Statement .releaseTimeout := statement_of_none rfl rfl rfl rfl

theorem stageReached : Statement .stageReached := statement_of_none rfl rfl rfl rfl

theorem applyWindowExpiry : Statement .applyWindowExpiry := statement_of_none rfl rfl rfl rfl

theorem pressureLoss (pinion : Pinion) : Statement (.pressureLoss pinion) := statement_of_none rfl rfl rfl rfl

theorem testStepExpiry : Statement .testStepExpiry := statement_of_none rfl rfl rfl rfl

theorem closedLockedInput (entrance : Entrance) (level : Bool) : Statement (.closedLockedInput entrance level) := statement_of_none rfl rfl rfl rfl

theorem openEndInput (entrance : Entrance) (level : Bool) : Statement (.openEndInput entrance level) := statement_of_none rfl rfl rfl rfl

theorem obstructionInput (entrance : Entrance) (level : Bool) : Statement (.obstructionInput entrance level) := statement_of_none rfl rfl rfl rfl

theorem settleExpiry (entrance : Entrance) : Statement (.settleExpiry entrance) := statement_of_none rfl rfl rfl rfl

theorem entranceMotionTimeout (entrance : Entrance) : Statement (.entranceMotionTimeout entrance) := statement_of_none rfl rfl rfl rfl

theorem entranceHeldExpired (entrance : Entrance) : Statement (.entranceHeldExpired entrance) := statement_of_none rfl rfl rfl rfl

theorem frameRejected (units : List Half) (partialUnit : Bool) : Statement (.frameRejected units partialUnit) := statement_of_none rfl rfl rfl rfl

theorem authority (units : List Half) : Statement (.authority units) := statement_of_frame rfl rfl rfl rfl (fun h => frameOfKind_length h)

theorem restrictionSet (units : List Half) : Statement (.restrictionSet units) := statement_of_frame rfl rfl rfl rfl (fun h => frameOfKind_length h)

theorem restrictionLift (units : List Half) : Statement (.restrictionLift units) := statement_of_frame rfl rfl rfl rfl (fun h => frameOfKind_length h)

theorem stopOrder (units : List Half) : Statement (.stopOrder units) := statement_of_frame rfl rfl rfl rfl (fun h => frameOfKind_length h)

theorem stopRelease (units : List Half) : Statement (.stopRelease units) := statement_of_frame rfl rfl rfl rfl (fun h => frameOfKind_length h)

theorem entrancePermit (units : List Half) : Statement (.entrancePermit units) := statement_of_frame rfl rfl rfl rfl (fun h => frameOfKind_length h)

theorem heartbeat (units : List Half) : Statement (.heartbeat units) := statement_of_frame rfl rfl rfl rfl (fun h => frameOfKind_length h)

theorem text (units : List Half) : Statement (.text units) := statement_of_frame rfl rfl rfl rfl (fun h => frameOfKind_length h)

theorem linkOverrun : Statement .linkOverrun := statement_of_none rfl rfl rfl rfl

theorem linkConflict : Statement .linkConflict := statement_of_none rfl rfl rfl rfl

theorem resetWaitEnd : Statement .resetWaitEnd := statement_of_none rfl rfl rfl rfl

theorem linkFault : Statement .linkFault := statement_of_none rfl rfl rfl rfl

theorem linkFaultCleared : Statement .linkFaultCleared := statement_of_none rfl rfl rfl rfl

theorem sendAttempt : Statement .sendAttempt := statement_of_none rfl rfl rfl rfl

theorem frameSent : Statement .frameSent := statement_of_none rfl rfl rfl rfl

theorem outboundSlotRead : Statement .outboundSlotRead := statement_of_none rfl rfl rfl rfl

theorem authorityExpiry : Statement .authorityExpiry := statement_of_none rfl rfl rfl rfl

theorem permitExpiry : Statement .permitExpiry := statement_of_none rfl rfl rfl rfl

theorem linkLossExpiry : Statement .linkLossExpiry := statement_of_none rfl rfl rfl rfl

theorem shadowExpiry : Statement .shadowExpiry := statement_of_none rfl rfl rfl rfl

theorem repeatFrame (units : List Half) : Statement (.repeatFrame units) := statement_of_frame rfl rfl rfl rfl (fun h => by simpa [WellFormed] using h)

end Sys2Proof.Laws.WellFormedness
end

