-- ==== Sys2Proof/Laws/React.lean ====
section
/-! SUPPORT. What the reactions of an event can do: a trip is latched, a raised cause is a trip, the brake changes by the
apply order alone, an entrance without a held request stands. -/

namespace Sys2Proof.Safety

open Sys2Proof.Machine

/-- A trip of `u` is still that trip in `v`, with at least its causes (R87). -/
def Latched (u v : SupUnit) : Prop :=
  u.state = .trip → v.state = .trip ∧ v.firstCause = u.firstCause ∧ v.tripTime = u.tripTime ∧ u.causes <+: v.causes

theorem Latched.refl (u : SupUnit) : Latched u u := fun h => ⟨h, rfl, rfl, List.prefix_refl _⟩

theorem Latched.trans {u v w : SupUnit} (h : Latched u v) (g : Latched v w) : Latched u w := fun x =>
  have a := h x
  have b := g a.1
  ⟨b.1, b.2.1.trans a.2.1, b.2.2.1.trans a.2.2.1, a.2.2.2.trans b.2.2.2⟩

/-- Fields other than the trip record do not matter. -/
theorem Latched.of_eq {u v : SupUnit} (h1 : v.state = u.state) (h2 : v.firstCause = u.firstCause) (h3 : v.tripTime = u.tripTime)
    (h4 : v.causes = u.causes) : Latched u v := fun h => ⟨h1.trans h, h2, h3, Eq.subst (motive := fun x => u.causes <+: x) h4.symm (List.prefix_refl _)⟩

theorem raise_latched (s : State) (c : Cause) : Latched s.sup (s.raise c).sup := by
  intro h
  unfold State.raise
  rw [if_pos h]
  split
  · exact Latched.refl _ h
  · simp [h]

/-- Raising a cause: the state is TRIP and the cause is in the set (R87). -/
theorem raise_trips (s : State) (c : Cause) : (s.raise c).sup.state = .trip ∧ c ∈ (s.raise c).sup.causes := by
  unfold State.raise
  split
  · rename_i h
    split
    · rename_i hc; exact ⟨h, by simpa using hc⟩
    · simp [h]
  · simp

theorem raiseAll_latched (cs : List Cause) (s : State) : Latched s.sup (cs.foldl State.raise s).sup := by
  induction cs generalizing s with
  | nil => exact Latched.refl _
  | cons c cs ih => exact (raise_latched s c).trans (ih _)

theorem raiseAll_trips {cs : List Cause} {c : Cause} (h : c ∈ cs) (s : State) :
    (cs.foldl State.raise s).sup.state = .trip ∧ c ∈ (cs.foldl State.raise s).sup.causes := by
  induction cs generalizing s with
  | nil => simp at h
  | cons d cs ih =>
    simp only [List.foldl_cons]
    rcases List.mem_cons.1 h with rfl | h
    · have a := raise_trips s c
      have b := raiseAll_latched cs (s.raise c) a.1
      exact ⟨b.1, b.2.2.2.subset a.2⟩
    · exact ih h _

theorem decideState_latched (s : State) : Latched s.sup s.decideState.sup := by
  intro h; unfold State.decideState; rw [h]; exact Latched.refl _ h

theorem setCeiling_latched (s : State) : Latched s.sup s.setCeiling.sup := by
  apply Latched.of_eq <;> (unfold State.setCeiling State.handRewrite State.setRewriteWaiting; dsimp only; (repeat' split) <;> first | rfl | simp)

theorem evaluateOnce_after (s : State) (cs : List Cause) :
    Latched (cs.foldl State.raise s).sup (s.evaluateOnce cs).sup := by
  unfold State.evaluateOnce
  generalize cs.foldl State.raise s = u
  dsimp only
  generalize hv : ({ u with sup := { u.sup with limit := u.currentLimit, targets := u.formTargets } } : State) = v
  have h1 : Latched u.sup v.sup := by rw [← hv]; exact Latched.of_eq rfl rfl rfl rfl
  have h2 := h1.trans (raiseAll_latched v.ownCauses v)
  have h3 := (h2.trans (decideState_latched _)).trans (setCeiling_latched _)
  exact h3.trans (Latched.of_eq rfl rfl rfl rfl)

theorem evaluateOnce_latched (s : State) (cs : List Cause) : Latched s.sup (s.evaluateOnce cs).sup :=
  (raiseAll_latched cs s).trans (evaluateOnce_after s cs)

theorem evaluateOnce_trips {cs : List Cause} {c : Cause} (h : c ∈ cs) (s : State) :
    (s.evaluateOnce cs).sup.state = .trip ∧ c ∈ (s.evaluateOnce cs).sup.causes := by
  have a := raiseAll_trips h s
  have d := evaluateOnce_after s cs a.1
  exact ⟨d.1, d.2.2.2.subset a.2⟩

theorem formServiceOutput_sup (s : State) : s.formServiceOutput.sup = s.sup := rfl

theorem applyOrder_sup (s : State) : s.applyOrder.sup = s.sup := by simp

/-- An evaluation with causes: after `evaluateOnce`, what follows keeps the trip. -/
theorem evaluate_after (s : State) (cs : List Cause) : Latched (s.evaluateOnce cs).sup (s.evaluate cs).sup := by
  unfold State.evaluate
  dsimp only
  split
  · split
    · simp only [applyOrder_sup, formServiceOutput_sup]; exact Latched.refl _
    · have h := evaluateOnce_latched (s.evaluateOnce cs).formServiceOutput.applyOrder []
      rw [applyOrder_sup, formServiceOutput_sup] at h
      rw [formServiceOutput_sup]
      exact h
  · rw [formServiceOutput_sup]; exact Latched.refl _

theorem evaluate_latched (s : State) (cs : List Cause) : Latched s.sup (s.evaluate cs).sup :=
  (evaluateOnce_latched s cs).trans (evaluate_after s cs)

theorem evaluate_trips {cs : List Cause} {c : Cause} (h : c ∈ cs) (s : State) :
    (s.evaluate cs).sup.state = .trip ∧ c ∈ (s.evaluate cs).sup.causes := by
  have a := evaluateOnce_trips h s
  have d := evaluate_after s cs a.1
  exact ⟨d.1, d.2.2.2.subset a.2⟩

/-- The reactions of an event keep a trip. -/
theorem react_latched (s b : State) (cs : List Cause) (g : Bool) : Latched s.sup (s.react b cs g).sup := by
  unfold State.react
  split
  · dsimp only
    have h1 : Latched s.sup s.judgeShadow.sup := by simp; exact Latched.refl _
    have h2 := evaluate_latched s.judgeShadow cs
    (repeat' split) <;> simp only [State.rfcSettle_frame, State.judgeRelease_frame] <;> first | exact h1.trans h2 | exact h1
  · exact Latched.refl _

/-- A cause raised in an event in service is a trip (R86, R87). -/
theorem react_trips {cs : List Cause} {c : Cause} (h : c ∈ cs) {s : State} (hs : s.inService = true) (b : State) (g : Bool) :
    (s.react b cs g).sup.state = .trip ∧ c ∈ (s.react b cs g).sup.causes := by
  unfold State.react
  rw [if_pos hs]
  have hne : cs ≠ [] := by rintro rfl; simp at h
  dsimp only
  rw [if_pos (Or.inr (Or.inl hne))]
  have a := evaluate_trips h s.judgeShadow
  split <;> simp only [State.rfcSettle_frame, State.judgeRelease_frame] <;> exact a

/-! ### The rack brake -/

/-- An apply order finds nothing to do outside RELEASING, RELEASED and TESTING (R109). -/
theorem applyOrder_idle {s : State} (h : s.rbc.state = .applied ∨ s.rbc.state = .applying ∨ s.rbc.state = .applyFault) :
    s.applyOrder = s := by
  unfold State.applyOrder
  rcases h with h | h | h <;> rw [h]

theorem evaluateOnce_rbc (s : State) (cs : List Cause) : (s.evaluateOnce cs).rbc = s.rbc := by simp

/-- An evaluation that enters no trip, or finds the brake with nothing to apply, changes the service brake output of the
brake alone. -/
theorem evaluate_rbc (s : State) (cs : List Cause)
    (h : (s.evaluate cs).sup.state ≠ .trip ∨ s.sup.state = .trip ∨ s.rbc.state = .applied ∨ s.rbc.state = .applying
      ∨ s.rbc.state = .applyFault) :
    ∃ n, (s.evaluate cs).rbc = { s.rbc with serviceOutput := n } := by
  have hk : ∀ t : State, t.rbc = s.rbc → ∃ n, t.formServiceOutput.rbc = { s.rbc with serviceOutput := n } := by
    intro t ht; exact ⟨_, by unfold State.formServiceOutput; rw [ht]⟩
  have h1 := hk (s.evaluateOnce cs) (evaluateOnce_rbc s cs)
  have hl := evaluate_after s cs
  unfold State.evaluate at h hl ⊢
  dsimp only at h hl ⊢
  split
  · rename_i hc
    rw [if_pos hc] at h hl
    rw [formServiceOutput_sup] at hc
    have hl := (hl hc.1).1
    rcases h with h | h | h
    · exact absurd hl h
    · exact absurd h hc.2
    · obtain ⟨n, hn⟩ := h1
      have hst : (s.evaluateOnce cs).formServiceOutput.rbc.state = s.rbc.state := by rw [hn]
      rw [applyOrder_idle (by rw [hst]; exact h)]
      rw [if_pos rfl]
      exact ⟨n, hn⟩
  · exact h1

/-- The reactions of an event that leaves no trip, or finds the brake with nothing to apply, change the service brake
output of the brake alone. -/
theorem react_rbc (s b : State) (cs : List Cause) (g : Bool)
    (h : (s.react b cs g).sup.state ≠ .trip ∨ s.sup.state = .trip ∨ s.rbc.state = .applied ∨ s.rbc.state = .applying
      ∨ s.rbc.state = .applyFault) :
    ∃ n, (s.react b cs g).rbc = { s.rbc with serviceOutput := n } := by
  have he := evaluate_rbc s.judgeShadow cs
  have hs : s.judgeShadow.sup = s.sup := by simp
  have hr : s.judgeShadow.rbc = s.rbc := by simp
  rw [hs, hr] at he
  unfold State.react at h ⊢
  by_cases hi : s.inService = true
  · rw [if_pos hi] at h ⊢
    dsimp only at h ⊢
    split at h <;> split <;> simp only [State.rfcSettle_frame] at h ⊢ <;> split <;> simp_all <;> first | exact ⟨_, rfl⟩ | skip
  · rw [if_neg hi]; exact ⟨_, rfl⟩

/-! ### Entrances -/

theorem startHeld_keeps (gained : Side → Bool) (s : State) (d e : Entrance) (h : (s.entrance e).held = false) :
    (State.startHeld gained s d).entrance e = s.entrance e := by
  unfold State.startHeld
  dsimp only
  split
  · rename_i hc
    by_cases he : e = d
    · subst he; rw [h] at hc; simp at hc
    · exact State.setEntrance_other _ he _
  · rfl

/-- An entrance with no held request stands through the release judgement (R123). -/
theorem judgeRelease_entrance (s : State) (e : Entrance) (h : (s.entrance e).held = false) :
    s.judgeRelease.entrance e = s.entrance e := by
  unfold State.judgeRelease
  dsimp only
  have hk : ∀ (gained : Side → Bool) (l : List Entrance) (t : State), (t.entrance e).held = false →
      (l.foldl (State.startHeld gained) t).entrance e = t.entrance e := by
    intro gained l
    induction l with
    | nil => intro t _; rfl
    | cons d l ih =>
      intro t ht
      have h1 := startHeld_keeps gained t d e ht
      rw [List.foldl_cons, ih _ (by rw [h1]; exact ht), h1]
  exact hk _ _ _ h

/-- An entrance with no held request stands through the reactions of an event. -/
theorem react_entrance (s b : State) (cs : List Cause) (g : Bool) (e : Entrance) (h : (s.entrance e).held = false) :
    (s.react b cs g).entrance e = s.entrance e := by
  have hx : ∀ u v : State, u.ent = v.ent → u.entrance e = v.entrance e := by intro u v h; unfold State.entrance; rw [h]
  unfold State.react
  split
  · dsimp only
    have h1 : s.judgeShadow.entrance e = s.entrance e := hx _ _ (by simp)
    have h2 : (s.judgeShadow.evaluate cs).entrance e = s.entrance e := hx _ _ (by simp)
    split <;> split <;> rw [hx _ _ (State.rfcSettle_frame _).2.2.2.2.2.2.2.2.1] <;>
      first
      | rw [judgeRelease_entrance _ _ (by first | rw [h2]; exact h | rw [h1]; exact h)]; assumption
      | assumption
  · rfl

/-! ### The valley link -/

/-- The in-shadow judgement moves the radio state and its timers only (R152). -/
theorem judgeShadow_vlu (s : State) : s.judgeShadow.vlu = { s.vlu with
    radio := s.judgeShadow.vlu.radio
    linkLoss := s.judgeShadow.vlu.linkLoss
    shadow := s.judgeShadow.vlu.shadow
    inShadow := s.judgeShadow.vlu.inShadow
    judgedFront := s.judgeShadow.vlu.judgedFront } := by
  unfold State.judgeShadow State.entersShadow State.leavesShadow
  dsimp only
  (repeat' split) <;> rfl

/-- The reactions of an event move the radio state and its timers only. -/
theorem react_vlu (s b : State) (cs : List Cause) (g : Bool) : (s.react b cs g).vlu = { s.vlu with
    radio := (s.react b cs g).vlu.radio
    linkLoss := (s.react b cs g).vlu.linkLoss
    shadow := (s.react b cs g).vlu.shadow
    inShadow := (s.react b cs g).vlu.inShadow
    judgedFront := (s.react b cs g).vlu.judgedFront } := by
  have h := judgeShadow_vlu s
  unfold State.react
  dsimp only
  (repeat' split) <;> simp only [State.rfcSettle_frame, State.judgeRelease_frame, State.evaluate_frame] <;>
    first | exact h | rfl

end Sys2Proof.Safety
end

