-- ==== Sys2Proof/Tests/Slice0.lean ====
section
/-! SUPPORT. Tests: ill-formed terms that `WellFormed` refuses, one step on small states, and for every statement with
hypotheses a state and operands that meet them, clause by clause at the bounds. -/

namespace Sys2Proof.Tests

open Sys2Proof.Machine Sys2Proof.Safety

set_option Elab.async false

/-! ### Ill-formed terms -/

theorem test_refuses_config_read_of_31 : WellFormed (.configRead (List.replicate 31 0)) = false := by decide

theorem test_refuses_fill_of_33 : WellFormed (.fill (List.replicate 33 0)) = false := by decide

theorem test_refuses_service_read_of_five_bytes : WellFormed (.serviceRead (List.replicate 5 0)) = false := by decide

theorem test_refuses_ccr_with_two_bytes : WellFormed (.ccr [0, 0]) = false := by decide

theorem test_refuses_access_without_lanes :
    WellFormed (.plainMemoryAccess 0x9000 0 true 0) = false ∧ WellFormed (.absorbedWrite 0x1010 0 0) = false
      ∧ WellFormed (.imageRead 0x2000 0) = false := by decide

theorem test_refuses_unaligned_words :
    WellFormed (.direction 0x1001 1) = false ∧ WellFormed (.traction 0x1006 0) = false
      ∧ WellFormed (.rackBrakeRelease 0x1009) = false ∧ WellFormed (.rackBrakeApply 0x100A) = false
      ∧ WellFormed (.serviceBrake 0x100E 0) = false ∧ WellFormed (.openRequest 0x1041) = false
      ∧ WellFormed (.closeRequest 0x1042) = false ∧ WellFormed (.noneRequest 0x1043) = false
      ∧ WellFormed (.isolate 0x1045) = false ∧ WellFormed (.restore 0x1046) = false
      ∧ WellFormed (.slotControlClear 0x1101 0) = false ∧ WellFormed (.flashRead 0x1102 0) = false
      ∧ WellFormed (.flashProgram 0x1102 0) = false ∧ WellFormed (.flashErase 0x1102 0) = false
      ∧ WellFormed (.profileInvalidate 0x1102 0) = false ∧ WellFormed (.profileRead 0x1102 0) = false
      ∧ WellFormed (.measure 0x1102 0) = false ∧ WellFormed (.tripClear 0x1102 0) = false
      ∧ WellFormed (.brakeTest 0x1102 0) = false ∧ WellFormed (.stable 0x1102 0) = false
      ∧ WellFormed (.resume 0x1102 0) = false ∧ WellFormed (.consumerIndexWrite 0x1205 0) = false
      ∧ WellFormed (.outboundProducerWrite 0x1B01 0) = false := by decide

theorem test_refuses_bad_operation_with_a_known_code : WellFormed (.slotBadOperation 0x1100 0x20 0) = false := by decide

theorem test_refuses_unaligned_bad_operation : WellFormed (.slotBadOperation 0x1101 0x21 0) = false := by decide

theorem test_refuses_frames_of_another_kind :
    WellFormed (.authority [0x0704, 0, 0, 0]) = false ∧ WellFormed (.restrictionSet [0x0304, 0, 0, 0]) = false
      ∧ WellFormed (.restrictionLift [0x0204, 0, 0, 0]) = false ∧ WellFormed (.stopOrder [0x0504, 0, 0, 0]) = false
      ∧ WellFormed (.stopRelease [0x0404, 0, 0, 0]) = false ∧ WellFormed (.entrancePermit [0x0104, 0, 0, 0]) = false
      ∧ WellFormed (.heartbeat [0x0804, 0, 0, 0]) = false ∧ WellFormed (.text [0x0704, 0, 0, 0]) = false := by decide

theorem test_refuses_frames_of_3_and_29_units :
    WellFormed (.heartbeat [0x0703, 0, 0]) = false ∧ WellFormed (.text (0x081D :: List.replicate 28 0)) = false
      ∧ WellFormed (.repeatFrame [0x0704, 0, 0]) = false ∧ WellFormed (.repeatFrame (List.replicate 29 0)) = false := by
  decide

theorem test_accepts_a_heartbeat : WellFormed (.heartbeat [0x0704, 0x0701, 0, 0xF1FB]) = true := by decide

theorem test_no_word_spells_a_command : decodeTableWord 16 0x5072 = none := rfl

/-! ### Small states -/

/-- The state a command leaves. -/
def after (c : Instr) (s : State) : State :=
  match exec c s with
  | .next t => t
  | .fault _ => s
  | .refused _ => s

/-- A command leaves a state with a property, before what it hands enters the queue. -/
def Leaves (c : Instr) (s : State) (p : State → Prop) : Prop := ∃ t : State, exec c s = .next t.entered ∧ p t

/-- A window map. -/
def map : WindowMap := ⟨0x1000, 0x1040, 0x1100, 0x1200, 0x1680, 0x1B00, 0x2000⟩

/-- The part in RUN, at standstill, the measurement VALID, nothing waiting. -/
def served : State := { State.reset with
  run := ⟨.run, 5000, none⟩
  path := { PathUnit.reset with map := some map }
  rfc := { RfcUnit.reset with inFlight := none, storeValid := true }
  motion := { MotionUnit.reset with standstill := true }
  scan := { ScanUnit.reset with meas := .valid }
  vlu := { ValleyUnit.reset with link := .idle } }

/-- The same in STABLED. -/
def stabled : State := { served with run := { served.run with runState := .stabled } }

/-- The same with the port busy. -/
def busy : State := { served with path := { served.path with portBusy := true } }

/-- The same with a field of the brake, the Supervisor or an entrance changed. -/
def withBrake (b : BrakeState) : State := { served with rbc := { served.rbc with state := b } }

def moving : State := { served with motion := { served.motion with standstill := false } }

def tripped : State := { served with sup := { served.sup with state := .trip, firstCause := some .overspeed, causes := [.overspeed] } }

def withEntrance (e : Entrance) (r : EntranceRec) : State := served.setEntrance e r

/-- An entrance in a state, its leaf closed and locked or not. -/
def leaf (st : EntranceState) (locked : Bool) : EntranceRec := { EntranceRec.reset locked false false with state := st }

/-- A slot whose operation waits to be handed over, with its first three operands. -/
def atHand (s : State) (o : Operation) (a b c : Word) : State :=
  s.setSlot 0 ⟨.inFlight, BitVec.ofNat 8 o.code, 0, some a, some b, some c, some 0, some 0, false⟩

/-- The same with the queue full behind a busy port. -/
def jammed (s : State) : State := { s with path := { s.path with
  portBusy := true
  queue := List.replicate 8 (.write 0x9000 2 .plain) } }

/-! The bytes of a configuration block that passes: its first seven pieces; the other nine are zeros. -/

def piece0 : List Byte :=
  [82, 87, 179, 165, 0, 16, 0, 1, 64, 0, 0, 0, 64, 16, 0, 2,
   64, 0, 0, 0, 0, 17, 0, 3, 0, 1, 0, 0, 0, 18, 0, 4]

def piece1 : List Byte :=
  [64, 4, 0, 0, 128, 22, 0, 5, 64, 4, 0, 0, 0, 27, 0, 6,
   64, 4, 0, 0, 0, 32, 0, 7, 128, 0, 0, 0, 7, 2, 180, 0]

def piece2 : List Byte :=
  [20, 0, 25, 0, 44, 1, 10, 20, 30, 0, 100, 0, 50, 0, 80, 0,
   90, 0, 88, 2, 232, 3, 60, 10, 232, 3, 182, 3, 132, 3, 82, 3]

def piece3 : List Byte :=
  [32, 3, 238, 2, 188, 2, 138, 2, 88, 2, 38, 2, 2, 0, 244, 1,
   2, 0, 244, 1, 2, 0, 244, 1, 2, 0, 244, 1, 2, 0, 244, 1]

def piece4 : List Byte :=
  [2, 0, 244, 1, 2, 0, 244, 1, 2, 0, 244, 1, 2, 0, 244, 1,
   2, 0, 244, 1, 32, 3, 100, 0, 200, 0, 232, 3, 184, 11, 184, 11]

def piece5 : List Byte :=
  [232, 3, 60, 0, 5, 20, 5, 20, 244, 1, 0, 0, 0, 0, 0, 16,
   0, 0, 0, 16, 0, 0, 0, 16, 0, 0, 0, 16, 0, 0, 0, 16]

def piece6 : List Byte :=
  [0, 0, 0, 16, 244, 1, 184, 11, 50, 0, 232, 3, 184, 11, 50, 0,
   3, 2, 32, 6, 5, 0, 0, 4, 0, 16, 0, 0, 3, 0, 0, 0]

/-- A configuration block that passes. -/
def block : List Byte :=
  piece0 ++ piece1 ++ piece2 ++ piece3 ++ piece4 ++ piece5 ++ piece6 ++ List.replicate 288 0

theorem test_block_passes : configPasses block = true := by decide +kernel

theorem test_block_map : windowMapOf block = some map := by decide +kernel

/-! ### Witnesses: the machine and its invariants -/

theorem serving : Serving served map := ⟨rfl, rfl, rfl, rfl, rfl⟩

theorem serving_stabled : Serving stabled map := ⟨rfl, rfl, rfl, rfl, rfl⟩

theorem serving_busy : Serving busy map := ⟨rfl, rfl, rfl, rfl, rfl⟩

theorem idle_port : PortIdle served := fun _ => ⟨rfl, rfl, rfl⟩

theorem idle_port_busy : PortIdle busy := fun h => Bool.noConfusion h

theorem idle_port_stabled : PortIdle stabled := fun _ => ⟨rfl, rfl, rfl⟩

theorem witness_StepRunsTheFrontCommand : served.pending = [] := rfl

/-- A cache with nothing in it and nothing asked for. -/
theorem cache_inv_served : CacheInv served := by
  have none_valid : ∀ ls ∈ served.prof.cache, ∀ l ∈ ls, l.valid = false := by decide
  refine ⟨⟨by decide, by decide⟩, fun k ls h => ⟨fun l hl hv => ?_, ?_⟩, by decide, ?_, ?_, by decide, by decide, ?_⟩
  · simp [none_valid ls (List.mem_of_getElem? h) l hl] at hv
  · rw [List.filter_eq_nil_iff.mpr fun l hl => by simp [none_valid ls (List.mem_of_getElem? h) l hl]]
    exact List.nodup_nil
  · intro _ _ h; cases h
  · intro _ h; cases h
  · intro _ h; cases h

theorem arbiter_inv_served : ArbiterInv served :=
  ⟨⟨fun h => Bool.noConfusion h, fun ⟨_, _, h⟩ => by cases h⟩, (fun h => by cases h), (fun h => by cases h), (fun _ h => by cases h),
    (fun _ h => by cases h), fun _ => Or.inl rfl⟩

/-- The invariants and a step that is taken: O6 to O12. -/
theorem witness_step_invariants :
    MemoryCanonical served ∧ MotionBounds served ∧ UnplacedInv served ∧ LinkBounds served ∧ PathBounds served ∧ CacheInv served
      ∧ ArbiterInv served ∧ TractionInv served ∧ EntranceInv served ∧ step served = .next served.tick := by
  refine ⟨rfl, by unfold MotionBounds; decide, fun _ => ⟨rfl, rfl, rfl⟩, by unfold LinkBounds; decide, ?_, cache_inv_served,
    arbiter_inv_served, ?_, ?_, rfl⟩
  · exact ⟨by decide, by decide, by unfold IndicesInRings; decide, (fun _ h => by cases h), (fun _ h => by cases h), by decide,
      idle_port, rfl⟩
  · exact ⟨⟨by decide, fun h => absurd rfl h⟩, by decide, fun _ => rfl⟩
  · exact ⟨fun _ h => Bool.noConfusion h, fun _ => rfl⟩

/-- The bounds are met at their ends: the highest position, speeds, D and rollback. -/
theorem witness_MotionBounds_at_the_bound :
    MotionBounds { served with motion := { served.motion with
      position := 199999, rollback := 3, difference := -3, speeds := ⟨600, 600, 600⟩, speed := 600 } } := by
  unfold MotionBounds; decide

/-- The bounds of the path with the queue full. -/
theorem witness_PathBounds_with_a_full_queue : PathBounds (jammed served) :=
  ⟨by decide, by decide, by unfold IndicesInRings; decide,
    fun e h => by
      have : e = .write 0x9000 2 .plain := by simpa [jammed, served, PathUnit.reset] using h
      subst this
      trivial,
    (fun _ h => by cases h), by decide, (fun h => Bool.noConfusion h), rfl⟩

/-- The traction invariant where the ceiling is not 0. -/
theorem witness_TractionInv_under_authority :
    TractionInv { served with
      sup := { served.sup with direction := .up, ceiling := 1000, traction := 1000, output := 1000 }
      vlu := { served.vlu with authority := some ⟨false, .up, 100, .none, 0, none⟩ }
      rbc := { served.rbc with state := .released } } :=
  ⟨⟨by decide, fun _ => ⟨_, rfl, rfl, rfl, rfl⟩⟩, by decide, fun h => Bool.noConfusion h⟩

/-- The entrance invariant where it calls for TRIP. -/
theorem witness_EntranceInv_in_trip :
    EntranceInv { tripped with
      motion := { tripped.motion with standstill := false }
      ent := { tripped.ent with recs := { tripped.ent.recs with x0 := leaf .opened false } } } :=
  ⟨fun _ _ _ => rfl, fun h => by rcases h with h | h <;> exact Bool.noConfusion h⟩

/-! ### Witnesses: the memory path -/

theorem classes :
    classify map 0x9000 = .plain ∧ classify map 0x0FFC = .plain ∧ classify map 0x1000 = .guarded .direction
      ∧ classify map 0x1004 = .guarded .traction ∧ classify map 0x1008 = .guarded .rackBrake
      ∧ classify map 0x100C = .guarded .serviceBrake ∧ classify map 0x1010 = .unused ∧ classify map 0x103C = .unused
      ∧ classify map 0x1040 = .guarded (.entrance 0) ∧ classify map 0x104C = .guarded (.entrance 3)
      ∧ classify map 0x1100 = .control 0 ∧ classify map 0x11C0 = .control 3 ∧ classify map 0x1104 = .slotWord 0
      ∧ classify map 0x1200 = .partWritten ∧ classify map 0x1204 = .noticeConsumer
      ∧ classify map 0x1684 = .inboundConsumer ∧ classify map 0x1B00 = .outboundProducer
      ∧ classify map 0x1B40 = .ringSlot 0 ∧ classify map 0x1F3C = .ringSlot 15
      ∧ classify map 0x2000 = .image 0 ∧ classify map 0x207C = .image 31 := by decide

theorem witness_PassingAccessReachesMemory :
    Serving served map ∧ PortIdle served ∧ Passes served map 0x9000 ∧ Passes served map 0x1104
      ∧ Passes served map 0x1B40 ∧ MemoryCanonical served ∧ served.path.portBusy = false
      ∧ (∀ w, classify map 0x9000 ≠ .image w) ∧ Serving busy map ∧ PortIdle busy ∧ busy.path.portBusy = true :=
  ⟨serving, idle_port, Or.inl (by decide), Or.inr (Or.inl ⟨0, by decide, by decide⟩),
    Or.inr (Or.inr ⟨0, by decide, by decide⟩), rfl, rfl, fun w => by rw [classes.1]; exact fun h => WordClass.noConfusion h,
    serving_busy, idle_port_busy, rfl⟩

theorem witness_WritesAreAbsorbedHeldOrPassed :
    Serving served map ∧ absorbReason served map 0x1010 0xF = some .unused
      ∧ absorbReason served map 0x1200 0xF = some .partOwned ∧ absorbReason served map 0x2000 0x1 = some .partOwned
      ∧ absorbReason served map 0x1004 0x3 = some .form ∧ absorbReason served map 0x1204 0x7 = some .form
      ∧ absorbReason (atHand served .measure 0 0 0) map 0x1104 0xF = some .blocked :=
  ⟨serving, by decide, by decide, by decide, by decide, by decide, by decide⟩

/-- The part in CONFIG_FAULT. -/
def faulted : State := { State.reset with run := ⟨.configFault, 200, none⟩ }

theorem witness_WritesAreAbsorbedHeldOrPassed_outside_service :
    State.reset.path.held = none ∧ State.reset.path.access = none ∧ State.reset.run.runState = .loading
      ∧ faulted.path.held = none ∧ faulted.path.access = none ∧ faulted.run.runState = .configFault
      ∧ faulted.path.portBusy = false ∧ faulted.path.queue = [] := by decide

theorem witness_ImageReadSamplesTheUnits : Serving served map ∧ classify map 0x2000 = .image 0
    ∧ classify map 0x2050 = .image 20 ∧ classify map 0x207C = .image 31 := ⟨serving, by decide, by decide, by decide⟩

/-- A queue with a write at its front and an access that 7 or 8 have passed. -/
def contended (n : Nat) : State := { busy with path := { busy.path with
  access := some ⟨0x9000, 0xF, true, 5⟩
  queue := [.write 0x9004 7 .plain]
  passedOver := n } }

theorem witness_FreePortIsArbitrated :
    served.path.entering = [] ∧ served.path.access = none ∧ served.path.queue = []
      ∧ (contended 7).path.entering = [] ∧ (contended 7).path.access = some ⟨0x9000, 0xF, true, 5⟩
      ∧ (contended 7).path.passedOver < 8 ∧ (contended 8).path.queue = .write 0x9004 7 .plain :: []
      ∧ 8 ≤ (contended 8).path.passedOver := by decide

theorem test_the_access_passes_seven_times_not_eight :
    Memory.read (after .memoryPortGrant (contended 7)).mem 0x9000 = 5
      ∧ Memory.read (after .memoryPortGrant (contended 7)).mem 0x9004 = 0
      ∧ Memory.read (after .memoryPortGrant (contended 8)).mem 0x9000 = 0
      ∧ Memory.read (after .memoryPortGrant (contended 8)).mem 0x9004 = 7 := by decide

/-- A queue with a rewrite at its front. -/
def rewriteWaits (t : Guarded) : State := { busy with path := { busy.path with queue := [.rewrite t] } }

theorem witness_FreePortIsArbitrated_rewrites :
    (rewriteWaits .traction).path.map = some map ∧ (rewriteWaits .traction).path.entering = []
      ∧ (rewriteWaits .traction).path.access = none ∧ (rewriteWaits .traction).path.queue = .rewrite .traction :: []
      ∧ (rewriteWaits .rackBrake).path.queue = .rewrite .rackBrake :: [] := by decide

/-- A queue with an entry of the part at its front: slot 1 in flight and the one completing, a program that reads its
word 0, an OUTBOUND slot with one word read. -/
def granting (e : QEntry) : State := { busy.setSlot 1 ⟨.inFlight, 0x21, 4, none, none, none, none, none, false⟩ with
  path := { (busy.setSlot 1 ⟨.inFlight, 0x21, 4, none, none, none, none, none, false⟩).path with queue := [e] }
  rfc := { busy.rfc with current := some (.flash ⟨⟨.program, 1, 4, 0, 8, 0x8000⟩, .dataReading 0, 0, 0, 0, 0, false⟩) }
  sup := { busy.sup with completing := some 1 }
  vlu := { busy.vlu with reading := some ⟨3, [7]⟩, stage0 := .copying [] 0 } }

theorem witness_FreePortIsArbitrated_grants :
    (granting (.write 0x1140 2 (.slotDone 1 4))).path.entering = [] ∧ (granting (.write 0x1140 2 (.slotDone 1 4))).path.access = none
      ∧ (granting (.write 0x1140 2 (.slotDone 1 4))).path.queue = .write 0x1140 2 (.slotDone 1 4) :: []
      ∧ ((granting (.read 0x8000 (.programData 4 0))).path.slots.get 1).state = .inFlight
      ∧ ((granting (.read 0x8000 (.programData 4 0))).path.slots.get 1).goOrder = 4
      ∧ (granting (.read 0x8000 (.programData 4 0))).rfc.current
          = some (.flash ⟨⟨.program, 1, 4, 0, 8, 0x8000⟩, .dataReading 0, 0, 0, 0, 0, false⟩)
      ∧ (granting (.read 0x1B44 (.outboundWord 1))).vlu.reading = some ⟨3, [7]⟩ ∧ [(7 : Word)].length = 1
      ∧ (rewriteWaits (.entrance 2)).path.queue = .rewrite (.entrance 2) :: [] := by decide

theorem test_granted_accesses_act :
    ((after .memoryPortGrant (granting (.write 0x1140 2 (.slotDone 1 4)))).path.slots.get 1).state = .done
      ∧ (after .memoryPortGrant (granting (.write 0x1140 2 (.slotDone 1 4)))).sup.completing = none
      ∧ ((after .memoryPortGrant (granting (.write 0x1140 2 (.slotDone 1 3)))).path.slots.get 1).state = .inFlight
      ∧ (after .memoryPortGrant (granting (.write 0x1200 9 (.noticeProducer 9)))).path.published = 9
      ∧ (after .memoryPortGrant (granting (.write 0x1680 5 (.inboundProducer 5 (some false))))).vlu.stage0 = .empty
      ∧ (after .memoryPortGrant (granting (.read 0x8000 (.programData 4 0)))).path.queue
          = [.read 0x8004 (.programData 4 1)]
      ∧ ((after .memoryPortGrant (granting (.read 0x1B44 (.outboundWord 1)))).vlu.reading.map fun r => r.words.length) = some 2 := by
  decide +kernel

/-- A notice that waits with so many slots unconsumed. -/
def noticeWaits (n : Nat) : State := { busy with path := { busy.path with
  waiters := [.notice ⟨0x0201, 2, .info, 0, 0, 0⟩]
  allocated := n } }

/-- A group just handed. -/
def handing (g : Group) (s : State) : State := { s with path := { s.path with handed := [g] } }

/-- A notice with nothing carried, and a completion of three words. -/
def someNotice : Group := .notice ⟨0x0201, 2, .info, 0, 0, 0⟩

def someWords : Group := .completion 1 [.write 0x8000 1 .plain, .write 0x8004 2 .plain, .write 0x8008 3 .plain]

theorem witness_HandedGroupsEnterOrWait :
    (handing someNotice busy).path.map = some map ∧ (handing someNotice busy).path.handed = [someNotice]
      ∧ (handing someNotice busy).path.waiters = [] ∧ (handing someNotice busy).path.entering = []
      ∧ (handing someNotice busy).path.queue.length < 8 ∧ (handing someNotice busy).path.portBusy = true
      ∧ DropsNotice { busy with path := { busy.path with allocated := 63 } } someNotice ∧ ¬DropsNotice busy someWords
      ∧ served.path.portBusy = false ∧ served.path.queue = [] ∧ served.path.access = none
      ∧ groupEntries served map someWords = .write 0x8000 1 .plain :: [.write 0x8004 2 .plain, .write 0x8008 3 .plain]
      ∧ 8 ≤ (handing someNotice (jammed served)).path.queue.length
      ∧ (noticeWaits 62).path.waiters = someNotice :: [] ∧ Settled (noticeWaits 62) ∧ (noticeWaits 62).path.waiters ≠ [] :=
  ⟨rfl, rfl, rfl, rfl, by decide, rfl, ⟨_, rfl, by decide⟩, (fun h => by obtain ⟨_, h, _⟩ := h; cases h), rfl, rfl, rfl, rfl,
    by decide, rfl, rfl, by decide⟩

theorem test_a_handed_group_enters_at_once_or_waits :
    (handing someNotice busy).entered.path.queue.length = 5 ∧ (handing someWords busy).entered.path.queue.length = 3
      ∧ (handing someWords served).entered.path.queue.length = 2
      ∧ Memory.read (handing someWords served).entered.mem 0x8000 = 1
      ∧ (handing someWords (jammed served)).entered.path.waiters = [someWords]
      ∧ (handing someNotice { busy with path := { busy.path with allocated := 63 } }).entered.path.dropped = 1
      ∧ (after (.absorbedWrite 0x1010 0xF 7) busy).path.queue.length = 5 := by decide +kernel

theorem test_the_64th_notice_is_dropped :
    (after .groupEntersQueue (noticeWaits 62)).path.queue.length = 5
      ∧ (after .groupEntersQueue (noticeWaits 63)).path.queue.length = 0
      ∧ (after .groupEntersQueue (noticeWaits 63)).path.dropped = 1 := by decide

theorem test_a_waiting_group_enters_as_the_port_and_a_tick_let_it :
    (after .memoryPortGrant (noticeWaits 0)).path.waiters = [] ∧ (noticeWaits 0).waitersEnter.path.queue.length = 5
      ∧ (after .memoryPortGrant (handing someWords (jammed served)).entered).path.queue.length = 8 := by decide +kernel

theorem test_the_orders_of_one_moment :
    (List.range 6).map (fun k => interleave (fun a b => a % 2 == b % 2) k [1, 2, 3])
      = [[1, 2, 3], [2, 1, 3], [1, 2, 3], [1, 3, 2], [1, 3, 2], [1, 3, 2]] := by decide

/-- Indices with 63 notices, 15 frames in, and OUTBOUND empty. -/
def rings : State := { served with path := { served.path with
  published := 63, inboundWritten := 15, dropped := 2 } }

theorem witness_RingIndicesAreJudgedByTheirRing_consumers :
    Serving rings map ∧ PortIdle rings ∧ classify map 0x1204 = .noticeConsumer
      ∧ ((63 : Word).toNat < 64 ∧ ((63 : Word).toNat + 64 - rings.path.noticeConsumer) % 64
          ≤ (rings.path.published + 64 - rings.path.noticeConsumer) % 64)
      ∧ (63 : Word).toNat ≠ rings.path.noticeConsumer ∧ 0 < rings.path.dropped
      ∧ ¬((64 : Word).toNat < 64) ∧ classify map 0x1684 = .inboundConsumer
      ∧ ((15 : Word).toNat < 16 ∧ ((15 : Word).toNat + 16 - rings.path.inboundConsumer) % 16
          ≤ (rings.path.inboundWritten + 16 - rings.path.inboundConsumer) % 16)
      ∧ ¬((16 : Word).toNat < 16) :=
  ⟨⟨rfl, rfl, rfl, rfl, rfl⟩, fun _ => ⟨rfl, rfl, rfl⟩, by decide⟩

theorem test_consumer_writes_at_the_bounds :
    Leaves (.consumerIndexWrite 0x1204 63) rings (fun t => t.path.noticeConsumer = 63)
      ∧ Leaves (.consumerIndexWrite 0x1204 64) rings (fun t => t.path.noticeConsumer = 0)
      ∧ Leaves (.consumerIndexWrite 0x1684 15) rings (fun t => t.path.inboundConsumer = 15)
      ∧ Leaves (.consumerIndexWrite 0x1684 16) rings (fun t => t.path.handed.length = 1) := by
  refine ⟨?_, ?_, ?_, ?_⟩ <;> exact ⟨_, rfl, by decide +kernel⟩

theorem witness_RingIndicesAreJudgedByTheirRing_producer :
    Serving served map ∧ PortIdle served ∧ classify map 0x1B00 = .outboundProducer
      ∧ ((15 : Word).toNat < 16 ∧ ((15 : Word).toNat + 16 - served.path.outboundProducer) % 16
          ≤ ((served.path.outboundWritten + 15) % 16 + 16 - served.path.outboundProducer) % 16)
      ∧ ¬((16 : Word).toNat < 16) := ⟨serving, idle_port, by decide⟩

theorem test_outbound_producer_at_the_bounds :
    (after (.outboundProducerWrite 0x1B00 15) served).path.outboundProducer = 15
      ∧ (after (.outboundProducerWrite 0x1B00 16) served).path.outboundProducer = 0 := by decide

/-! ### Witnesses: guarded writes -/

theorem witness_OwnerAbsorbsUnknownValuesAndInStabled :
    Serving served map ∧ classify map 0x1000 = .guarded .direction ∧ 2 < (3 : Word).toNat
      ∧ classify map 0x1008 = .guarded .rackBrake ∧ 1 < (2 : Word).toNat ∧ classify map 0x104C = .guarded (.entrance 3)
      ∧ 4 < (5 : Word).toNat ∧ Serving stabled map ∧ stabled.run.runState = .stabled
      ∧ classify map 0x1004 = .guarded .traction ∧ (1 : Word) ≠ 0 ∧ classify map 0x100C = .guarded .serviceBrake :=
  ⟨serving, by decide, by decide, by decide, by decide, by decide, by decide, serving_stabled, by decide⟩

theorem witness_DirectionAndTractionAreTakenByTheirRules_direction :
    Serving served map ∧ Serving moving map ∧ classify map 0x1000 = .guarded .direction ∧ served.run.runState = .run
      ∧ (2 : Word).toNat ≤ 2 ∧ PortIdle served ∧ moving.motion.standstill = false ∧ served.motion.standstill = true
      ∧ (0 : Word).toNat = served.sup.direction.code :=
  ⟨serving, ⟨rfl, rfl, rfl, rfl, rfl⟩, by decide, rfl, by decide, idle_port, rfl, rfl, rfl⟩

theorem test_direction_at_standstill_and_moving :
    (after (.direction 0x1000 2) served).sup.direction = .down
      ∧ (after (.direction 0x1000 2) moving).sup.direction = .none := by decide

theorem witness_DirectionAndTractionAreTakenByTheirRules_traction :
    Serving served map ∧ classify map 0x1004 = .guarded .traction ∧ (served.run.runState = .stabled → (700 : Word) = 0)
      ∧ Serving stabled map ∧ (stabled.run.runState = .stabled → (0 : Word) = 0) ∧ PortIdle served :=
  ⟨serving, by decide, fun h => RunState.noConfusion h, serving_stabled, fun _ => rfl, idle_port⟩

theorem test_traction_without_authority_is_stored_as_0 : (after (.traction 0x1004 700) served).sup.output = 0 := by decide

theorem witness_ReleaseIsRefusedInOrderOrStarts_refused :
    Serving served map ∧ classify map 0x1008 = .guarded .rackBrake ∧ served.run.runState = .run
      ∧ (withBrake .applying).rbc.state = .applying ∧ (withBrake .testing).rbc.state = .testing
      ∧ (withBrake .applyFault).rbc.state = .applyFault ∧ served.rbc.state = .applied
      ∧ tripped.sup.state = .trip ∧ served.sup.state ≠ .trip ∧ served.writeInFlight = false
      ∧ (withEntrance 3 (leaf .ajar false)).firstUnsecured = some 3 ∧ served.firstUnsecured = none
      ∧ ({ served with scan := ScanUnit.reset } : State).scan.meas ≠ .valid
      ∧ ({ served with scan := { served.scan with phWindow := .low } } : State).scan.phWindow = .low :=
  ⟨serving, by decide⟩

theorem test_release_is_refused_in_trip_and_taken_when_clear :
    (after (.rackBrakeRelease 0x1008) tripped).rbc.state = .applied
      ∧ (after (.rackBrakeRelease 0x1008) served).rbc.state = .releasing
      ∧ (after (.rackBrakeRelease 0x1008) served).rbc.setpointB = 1000 := by decide

theorem witness_ReleaseIsRefusedInOrderOrStarts_starts :
    Serving served map ∧ classify map 0x1008 = .guarded .rackBrake ∧ served.run.runState = .run ∧ PortIdle served
      ∧ served.rbc.state = .applied ∧ served.sup.state ≠ .trip ∧ served.writeInFlight = false
      ∧ served.firstUnsecured = none ∧ served.scan.meas = .valid ∧ served.scan.phWindow ≠ .low
      ∧ Serving (withBrake .released) map ∧ PortIdle (withBrake .released) ∧ (withBrake .released).rbc.state = .released
      ∧ (after (.rackBrakeRelease 0x1008) served).sup.state ≠ .trip :=
  ⟨serving, by decide, rfl, idle_port, rfl, by decide, rfl, rfl, rfl, by decide, ⟨rfl, rfl, rfl, rfl, rfl⟩,
    fun _ => ⟨rfl, rfl, rfl⟩, rfl, by decide⟩

theorem witness_ApplyStartsAnApplication :
    Serving (withBrake .released) map ∧ classify map 0x1008 = .guarded .rackBrake
      ∧ (withBrake .released).run.runState = .run ∧ PortIdle (withBrake .released)
      ∧ (withBrake .released).rbc.state = .released ∧ (withBrake .releasing).rbc.state = .releasing
      ∧ (withBrake .applyFault).rbc.state = .applyFault ∧ (withBrake .testing).rbc.state = .testing
      ∧ (after (.rackBrakeApply 0x1008) (withBrake .testing)).sup.state ≠ .trip :=
  ⟨⟨rfl, rfl, rfl, rfl, rfl⟩, by decide, rfl, fun _ => ⟨rfl, rfl, rfl⟩, rfl, rfl, rfl, rfl, by decide⟩

theorem test_gradient_0_descends_in_neither_direction :
    descentFor .up 0 = none ∧ descentFor .down 0 = none ∧ descentFor .none 0 = none ∧ descentFor .none (-1) = some .up
      ∧ descentFor .up (-1) = some .up ∧ descentFor .down 1 = some .down ∧ descentFor .up 1 = none := by decide

theorem test_apply_from_released : (after (.rackBrakeApply 0x1008) (withBrake .released)).rbc.state = .applying := by decide

theorem witness_ServiceBrakeOutputIsTheGreatestClaim :
    Serving served map ∧ classify map 0x100C = .guarded .serviceBrake ∧ served.run.runState = .run ∧ PortIdle served
      ∧ GreatestClaim served ∧ step served = .next served.tick ∧ served.tick.run.runState ≠ .configFault :=
  ⟨serving, by decide, rfl, idle_port, by unfold GreatestClaim; decide, rfl, by decide⟩

theorem test_service_brake_is_held_at_100 :
    (after (.serviceBrake 0x100C 100) served).rbc.serviceOutput = 100
      ∧ (after (.serviceBrake 0x100C 101) served).rbc.serviceOutput = 100 := by decide

theorem witness_RequestsAreDecidedByTheEntranceState_open :
    ({ leaf .closing false with openEnd := true } : EntranceRec).openEnd = true ∧ (leaf .ajar false).autoClose = false
      ∧ (leaf .closing false).openEnd = false ∧ (leaf .closedLocked true).closedLocked = true
      ∧ (leaf .closedLocked true).held = false ∧ ({ leaf .closedLocked true with held := true } : EntranceRec).held = true
      ∧ (leaf .unlocking true).state = .unlocking ∧ (leaf .opening false).state = .opening
      ∧ (leaf .closing false).state = .closing ∧ (leaf .locking true).state = .locking
      ∧ (leaf .obstructed false).state = .obstructed ∧ (leaf .ajar false).state = .ajar
      ∧ (leaf .isolated true).state = .isolated := by decide

theorem witness_RequestsAreDecidedByTheEntranceState_others :
    (leaf .opened false).state = .opened ∧ (leaf .opened false).closedLocked = false
      ∧ (leaf .unlocking true).closedLocked = true ∧ (leaf .ajar true).closedLocked = true ∧ (leaf .obstructed false).closedLocked = false
      ∧ (leaf .opened false).state ≠ .closedLocked ∧ (leaf .opened false).state ≠ .isolated := by decide

theorem witness_RequestIsStoredOrRefused :
    Serving served map ∧ classify map 0x1040 = .guarded (.entrance 0) ∧ served.run.runState = .run ∧ PortIdle served
      ∧ (served.entrance 0).take .restore (served.released? 0) served.now = .inl .notIsolated
      ∧ (served.entrance 0).take .opening (served.released? 0) served.now =
          .inr { served.entrance 0 with held := true, heldTime := 5000 } :=
  ⟨serving, by decide, rfl, idle_port, by decide, by decide⟩

theorem test_requests :
    ((after (.openRequest 0x1040) served).entrance 0).held = true
      ∧ ((after (.isolate 0x104C) served).entrance 3).state = .isolated
      ∧ ((after (.restore 0x104C) (withEntrance 3 (leaf .isolated true))).entrance 3).state = .closedLocked
      ∧ ((after (.closeRequest 0x1044) (withEntrance 1 (leaf .opened false))).entrance 1).state = .closing
      ∧ ((after (.noneRequest 0x1040) (after (.openRequest 0x1040) busy)).entrance 0).held = true := by decide

/-! ### Witnesses: slots -/

theorem witness_ControlWordsAreDecidedBySlotState_go :
    Serving served map ∧ PortIdle served ∧ classify map 0x1100 = .control 0
      ∧ ((atHand served .measure 0 0 0).path.slots.get 0).state = .inFlight ∧ (served.path.slots.get 0).state ≠ .inFlight
      ∧ (2 : Word).getLsbD 1 = true ∧ (0 : Word).getLsbD 1 = false ∧ Serving stabled map ∧ PortIdle stabled
      ∧ stabled.run.runState = .stabled ∧ Operation.stable ∈ barredInStabled ∧ Operation.resume ∉ barredInStabled :=
  ⟨serving, idle_port, by decide, by decide, by decide, by decide, by decide, serving_stabled, idle_port_stabled, by decide⟩

theorem test_go_with_each_operation :
    Leaves (.flashRead 0x1100 0) served (fun t => t.path.handed.length = 5)
      ∧ Leaves (.flashProgram 0x1140 0) served (fun t => t.path.nextGo = 1)
      ∧ Leaves (.flashErase 0x1180 0) served (fun t => t.path.handed.length = 5)
      ∧ Leaves (.profileInvalidate 0x11C0 0) served (fun t => t.path.handed.length = 5)
      ∧ Leaves (.profileRead 0x1100 0) stabled (fun t => t.path.handed.length = 5)
      ∧ Leaves (.measure 0x1100 0) stabled (fun t => t.path.handed.length = 5)
      ∧ Leaves (.tripClear 0x1100 0) stabled (fun t => t.path.handed.length = 1)
      ∧ Leaves (.brakeTest 0x1100 0) stabled (fun t => t.path.handed.length = 1)
      ∧ Leaves (.stable 0x1100 0) stabled (fun t => t.path.handed.length = 1)
      ∧ Leaves (.resume 0x1100 0) stabled (fun t => t.path.handed.length = 5) := by
  refine ⟨?_, ?_, ?_, ?_, ?_, ?_, ?_, ?_, ?_, ?_⟩ <;> exact ⟨_, rfl, by decide +kernel⟩

theorem witness_ControlWordsAreDecidedBySlotState_others :
    Serving served map ∧ PortIdle served ∧ classify map 0x11C0 = .control 3
      ∧ ((atHand served .measure 0 0 0).path.slots.get 0).state = .inFlight ∧ (served.path.slots.get 3).state ≠ .inFlight
      ∧ (2 : Word).getLsbD 1 = true ∧ (0 : Word).getLsbD 1 = false
      ∧ (∀ o : Operation, o.code ≠ (0x21 : Byte).toNat) :=
  ⟨serving, idle_port, by decide, by decide, by decide, by decide, by decide, fun o => by cases o <;> decide⟩

theorem test_bad_operation_and_clear :
    Leaves (.slotBadOperation 0x1100 0x21 0) served (fun t => t.path.handed.length = 1)
      ∧ Leaves (.slotControlClear 0x1100 0) served (fun t => (t.path.slots.get 0).state = .idle) := by
  refine ⟨?_, ?_⟩ <;> exact ⟨_, rfl, by decide +kernel⟩

theorem test_done_set_without_go_is_out_of_range :
    Leaves (.absorbedWrite 0x1100 0xF 2) served (fun t => t.path.slots = served.path.slots)
      ∧ Leaves (.absorbedWrite 0x1100 0xF 2) served (fun t => t.path.handed.length = 1) := by
  refine ⟨?_, ?_⟩ <;> exact ⟨_, rfl, by decide +kernel⟩

theorem at_hand (o : Operation) (a b c : Word) : AtHandOver (atHand served o a b c) map 0 o := ⟨rfl, rfl, rfl, rfl, rfl⟩

theorem witness_MeasureJoinsTheSpotList :
    (served.path.slots.get 0).state ≠ .inFlight ∧ served.inService = true
      ∧ AtHandOver (atHand served .measure 7 16 0) map 0 .measure
      ∧ ((atHand served .measure 7 16 0).path.slots.get 0).operandNat 1 = 7
      ∧ ((atHand served .measure 7 16 0).path.slots.get 0).operandNat 2 = 16
      ∧ ((atHand served .measure 8 17 0).path.slots.get 0).operandNat 1 = 8
      ∧ ((atHand served .measure 8 17 0).path.slots.get 0).operandNat 2 = 17 :=
  ⟨by decide, rfl, at_hand _ _ _ _, by decide, by decide, by decide, by decide⟩

theorem test_measure_at_the_bounds :
    ((after (.slotDispatch 0) (atHand served .measure 7 16 0)).scan.spots.map Spot.remaining) = [16]
      ∧ (after (.slotDispatch 0) (atHand served .measure 8 1 0)).scan.spots = []
      ∧ (after (.slotDispatch 0) (atHand served .measure 0 17 0)).scan.spots = []
      ∧ ((after (.slotDispatch 0) (atHand stabled .measure 7 16 0)).scan.spots.map Spot.remaining) = [1] := by decide

/-- A trip with VALLEY_STOP, the stop not released. -/
def stopped : State := { atHand served .tripClear 0 0 0 with
  sup := { served.sup with state := .trip, firstCause := some .valleyStop, causes := [.valleyStop], tripTime := 9 }
  vlu := { served.vlu with stop := .unreleased } }

theorem witness_TripClearRunsItsTests :
    (atHand served .tripClear 0 0 0).inService = true
      ∧ AtHandOver (atHand served .tripClear 0 0 0) map 0 .tripClear ∧ served.sup.completing = none
      ∧ ({ served with sup := { served.sup with completing := some 0 } } : State).sup.completing.isSome = true
      ∧ AtHandOver stopped map 0 .tripClear ∧ stopped.sup.state = .trip ∧ stopped.motion.standstill = true
      ∧ stopped.rbc.state = .applied ∧ (∃ c ∈ stopped.sup.causes, CauseStands stopped c)
      ∧ (∀ c ∈ tripped.sup.causes, ¬CauseStands tripped c) ∧ Cause.valleyStop ∈ stopped.sup.causes
      ∧ stopped.vlu.stop = .unreleased :=
  ⟨rfl, at_hand _ _ _ _, rfl, rfl, ⟨rfl, rfl, rfl, rfl, rfl⟩, rfl, rfl, rfl, ⟨.valleyStop, by decide, rfl⟩,
    fun c h => by simp [tripped] at h; subst h; exact id, by decide, rfl⟩

/-- With nothing to run against, no trip condition of the Supervisor's own holds. -/
theorem no_own_cause {t : State} (targets : t.sup.targets = []) (auth : t.vlu.authority = none)
    (slow : ¬t.sup.limit + Cfg.tripMargin t.cfg < t.motion.speed) (c : Cause) : ¬OwnCause t c := by
  cases c <;> simp [OwnCause, Overruns, targets, auth]
  omega

theorem witness_TripClearRunsItsTests_cleared :
    Leaves (.slotDispatch 0) { stopped with vlu := { stopped.vlu with stop := .released } } (fun t => ∀ c, ¬OwnCause t c)
      ∧ ∀ c ∈ stopped.sup.causes, ¬CauseStands { stopped with vlu := { stopped.vlu with stop := .released } } c :=
  ⟨⟨_, rfl, no_own_cause (by decide +kernel) (by decide +kernel) (by decide +kernel)⟩,
    fun c h => by
      have : c = .valleyStop := by simpa [stopped] using h
      subst this
      exact fun h => by cases h⟩

theorem test_trip_clear_waits_for_the_stop_release :
    Leaves (.slotDispatch 0) stopped (fun t => t.sup.state = .trip)
      ∧ Leaves (.slotDispatch 0) { stopped with vlu := { stopped.vlu with stop := .released } } (fun t => t.sup.state = .normal) := by
  refine ⟨?_, ?_⟩ <;> exact ⟨_, rfl, by decide +kernel⟩

theorem witness_BrakeTestStartsOrIsRefused :
    (atHand served .brakeTest 0 0 0).inService = true ∧ AtHandOver (atHand served .brakeTest 0 0 0) map 0 .brakeTest
      ∧ (withBrake .testing).rbc.state = .testing ∧ (atHand served .brakeTest 0 0 0).rbc.state ≠ .testing
      ∧ testReason (atHand served .brakeTest 0 0 0) = none
      ∧ testReason (atHand moving .brakeTest 0 0 0) = some .notStandstill
      ∧ testReason (atHand tripped .brakeTest 0 0 0) = some .tripped :=
  ⟨rfl, at_hand _ _ _ _, rfl, by decide, by decide, by decide, by decide⟩

theorem test_brake_test_starts :
    (after (.slotDispatch 0) (atHand served .brakeTest 0 0 0)).rbc.setpointA = 1000
      ∧ (after (.slotDispatch 0) (atHand served .brakeTest 0 0 0)).rbc.serviceOutput = 100 := by decide

theorem witness_StableAndResumeMoveTheRunState :
    AtHandOver (atHand served .stable 0 0 0) map 0 .stable ∧ served.run.completing = none
      ∧ AtHandOver (atHand served .resume 0 0 0) map 0 .resume ∧ served.inService = true
      ∧ ({ served with run := { served.run with completing := some 1 } } : State).run.completing.isSome = true
      ∧ stableReason (atHand served .stable 0 0 0) = none
      ∧ stableReason (atHand (withEntrance 3 (leaf .ajar false)) .stable 0 0 0) = some (.entrance, 4)
      ∧ stabled.run.runState = .stabled ∧ served.run.runState = .run :=
  ⟨at_hand _ _ _ _, rfl, at_hand _ _ _ _, rfl, rfl, by decide, by decide, rfl, rfl⟩

theorem test_stable_and_resume :
    Leaves (.slotDispatch 0) (atHand served .stable 0 0 0) (fun t => t.run.runState = .stabled)
      ∧ Leaves (.slotDispatch 0) (atHand stabled .resume 0 0 0) (fun t => t.run.runState = .run) := by
  refine ⟨?_, ?_⟩ <;> exact ⟨_, rfl, by decide +kernel⟩

/-- A FILL for the window on the link. -/
def fillInFlight (n : Nat) : State := { served with
  rfc := { served.rfc with inFlight := some (.fill n false), activeFill := true } }

theorem witness_FlashOperationsJoinTheListOrFail :
    served.inService = true ∧ AtHandOver (atHand served .flashRead 0 256 0x8000) map 0 .flashRead
      ∧ ((atHand served .flashRead 4194048 256 0x8000).path.slots.get 0).operandNat 1 = 4194048
      ∧ flashOutside .read 4194048 256 = false ∧ flashOutside .read 4194049 256 = true ∧ flashOutside .read 0 0 = true
      ∧ flashOutside .read 0 257 = true ∧ flashOutside .program 255 1 = false ∧ flashOutside .program 255 2 = true
      ∧ flashOutside .erase 4190208 0 = false ∧ flashOutside .erase 4194304 0 = true ∧ flashOutside .erase 1 0 = true
      ∧ bufferPasses map 0x8000 256 = true ∧ bufferPasses map 0x1000 256 = false ∧ bufferPasses map 0x8001 256 = false
      ∧ flashReason served = none ∧ flashReason moving = some .moving
      ∧ served.rfc.current = none ∧ served.rfc.items = [] ∧ served.prof.reads = [] ∧ served.rfc.fills = []
      ∧ served.rfc.inFlight = none ∧ served.rfc.activeFill = false ∧ (fillInFlight 0).rfc.inFlight = some (.fill 0 false)
      ∧ (fillInFlight 0).rfc.current = none ∧ (fillInFlight 0).rfc.fills = [] ∧ flashReason (fillInFlight 0) = none :=
  ⟨rfl, at_hand _ _ _ _, by decide⟩

theorem witness_BufferGood :
    BufferGood map 0x8000 256 ∧ BufferGood map 0xF00 256 ∧ ¬BufferGood map 0xF04 256 ∧ ¬BufferGood map 0x8002 4
      ∧ BufferGood map 0x2080 32 ∧ ¬BufferGood map 0xFFFFFC 5 := by
  refine ⟨⟨by decide, by decide, by decide, ?_⟩, ⟨by decide, by decide, by decide, ?_⟩, fun h => ?_, fun h => absurd h.1 (by decide),
    ⟨by decide, by decide, by decide, ?_⟩, fun h => absurd h.2.2.1 (by decide)⟩
  · intro x _ _ w hw; simp [map] at hw; rcases hw with h | h | h | h | h | h | h <;> subst h <;> simp <;> omega
  · intro x _ _ w hw; simp [map] at hw; rcases hw with h | h | h | h | h | h | h <;> subst h <;> simp <;> omega
  · exact h.2.2.2 0x1003 (by decide) (by decide) (map.demand, 64) (by simp) (by decide)
  · intro x _ _ w hw; simp [map] at hw; rcases hw with h | h | h | h | h | h | h <;> subst h <;> simp <;> omega

theorem test_flash_operations :
    Leaves (.slotDispatch 0) (atHand served .flashRead 0 256 0x8000) (fun t => t.rfc.inFlight = some (.serviceRead 0 []))
      ∧ Leaves (.slotDispatch 0) (atHand served .flashErase 4096 0 0) (fun t => t.rfc.inFlight = some .writeEnable)
      ∧ Leaves (.slotDispatch 0) (atHand served .flashProgram 0 4 0x8000) (fun t => t.path.handed.length = 1)
      ∧ Leaves (.slotDispatch 0) (atHand moving .flashErase 4096 0 0) (fun t => t.rfc.current = none)
      ∧ Leaves (.slotDispatch 0) (atHand served .flashErase 4096 0 0) (fun t => t.rfc.lockout = .set)
      ∧ Leaves (.slotDispatch 0) (atHand (fillInFlight 0) .flashErase 4096 0 0) (fun t => t.rfc.lockout = .waiting)
      ∧ Leaves (.slotDispatch 0) (atHand (fillInFlight 0) .flashRead 0 256 0x8000) (fun t => t.rfc.lockout = .clear) := by
  refine ⟨?_, ?_, ?_, ?_, ?_, ?_, ?_⟩ <;> exact ⟨_, rfl, by decide +kernel⟩

/-- A cache that holds segment 1, of a line of two segments. -/
def cached : State := { served with
  rfc := { served.rfc with store := (List.replicate 220 0) ++ [2] ++ List.replicate 291 0 }
  prof := { served.prof with cache := served.prof.cache.set 1 [⟨true, false, 1, 0, List.replicate 32 1⟩] } }

/-- The same with all four ways of set 0 pinned for other segments. -/
def pinnedOut : State := { cached with
  prof := { cached.prof with cache := cached.prof.cache.set 0 ([16, 32, 48, 64].map fun n => ⟨true, true, n, 0, []⟩) } }

theorem witness_ProfileOperationsReachTheCache :
    AtHandOver (atHand cached .profileInvalidate 1 0 0) map 0 .profileInvalidate ∧ Cfg.segmentCount cached.cfg = 2
      ∧ ((atHand cached .profileInvalidate 0xFFFFFFFF 0 0).path.slots.get 0).operandNat 1 = 0xFFFFFFFF
      ∧ AtHandOver (atHand cached .profileRead 1 0x8000 32) map 0 .profileRead
      ∧ ((atHand cached .profileRead 1 0x8000 32).path.slots.get 0).operandNat 3 = 32
      ∧ cached.prof.lineOf 1 = some ⟨true, false, 1, 0, List.replicate 32 1⟩ ∧ cached.prof.lineOf 0 = none
      ∧ bufferPasses map 0x8000 32 = true ∧ cached.rfc.fillKnown 0 = false ∧ cached.prof.allPinned 0 = false
      ∧ pinnedOut.rfc.fillKnown 0 = false ∧ pinnedOut.prof.allPinned 0 = true ∧ pinnedOut.prof.lineOf 0 = none :=
  ⟨⟨rfl, rfl, rfl, rfl, rfl⟩, by decide +kernel, by decide +kernel, ⟨rfl, rfl, rfl, rfl, rfl⟩, by decide +kernel,
    by decide +kernel, by decide +kernel, by decide +kernel, by decide +kernel, by decide +kernel, by decide +kernel,
    by decide +kernel, by decide +kernel⟩

theorem test_profile_operations :
    Leaves (.slotDispatch 0) (atHand cached .profileInvalidate 1 0 0) (fun t => t.prof.lineOf 1 = none)
      ∧ Leaves (.slotDispatch 0) (atHand cached .profileRead 1 0x8000 32) (fun t => t.path.handed.length = 9)
      ∧ Leaves (.slotDispatch 0) (atHand cached .profileRead 0 0x8000 32) (fun t => t.rfc.inFlight = some (.fill 0 false))
      ∧ Leaves (.slotDispatch 0) (atHand cached .profileRead 2 0x8000 32) (fun t => t.path.handed.length = 1)
      ∧ Leaves (.slotDispatch 0) (atHand cached .profileRead 0 0x8000 32) (fun t => t.rfc.uncached = [])
      ∧ Leaves (.slotDispatch 0) (atHand pinnedOut .profileRead 0 0x8000 32) (fun t => t.rfc.uncached = [0])
      ∧ Leaves (.slotDispatch 0) (atHand pinnedOut .profileRead 0 0x8000 32) (fun t => t.rfc.inFlight = some (.fill 0 false)) := by
  refine ⟨?_, ?_, ?_, ?_, ?_, ?_, ?_⟩ <;> exact ⟨_, rfl, by decide +kernel⟩

/-! ### Witnesses: start-up and CCR -/

/-- LOADING with a piece under way, over a store. -/
def loadingAt (k : Nat) (store : List Byte) : State := { State.reset with
  rfc := { RfcUnit.reset with inFlight := some (.configRead k), store := store } }

/-- The last piece under way with the time base at its limit. -/
def late (k : Nat) : State := { loadingAt k block with run := ⟨.loading, 200, none⟩ }

theorem witness_ConfigurationIsReadAndJudged :
    (loadingAt 14 block).run.runState = .loading ∧ (loadingAt 14 block).rfc.inFlight = some (.configRead 14)
      ∧ (loadingAt 15 block).rfc.inFlight = some (.configRead 15)
      ∧ configPasses (block.take (32 * 15) ++ takeBytes 32 (List.replicate 32 0) ++ block.drop (32 * 15 + 32)) = true
      ∧ windowMapOf (block.take (32 * 15) ++ takeBytes 32 (List.replicate 32 0) ++ block.drop (32 * 15 + 32)) = some map
      ∧ configPasses (block.take (32 * 15) ++ takeBytes 32 (List.replicate 32 1) ++ block.drop (32 * 15 + 32)) = false
      ∧ ({ State.reset with run := ⟨.loading, 200, none⟩ } : State).rfc.storeValid = false
      ∧ (loadingAt 14 block).now.toNat < 200 ∧ 200 ≤ (late 15).now.toNat
      ∧ (late 15).rfc.inFlight = some (.configRead 15) ∧ (late 15).run.runState = .loading := by decide +kernel

theorem test_the_last_piece_and_the_limit :
    (after (.configRead (List.replicate 32 0)) (loadingAt 15 block)).path.map = some map
      ∧ (after (.configRead (List.replicate 32 1)) (loadingAt 15 block)).run.runState = .configFault
      ∧ (after (.configRead (List.replicate 32 0)) (late 15)).run.runState = .configFault
      ∧ (after (.configRead (List.replicate 32 0)) (loadingAt 14 block)).rfc.inFlight = some (.configRead 15)
      ∧ (after .loadingLimit { State.reset with run := ⟨.loading, 199, none⟩ }).run.runState = .loading
      ∧ (after .loadingLimit { State.reset with run := ⟨.loading, 200, none⟩ }).run.runState = .configFault := by
  decide +kernel

/-- LOADING with the block passed and every initial write made. -/
def ready : State := { State.reset with
  path := { PathUnit.reset with map := some map }
  rfc := { RfcUnit.reset with inFlight := none, store := block, storeValid := true } }

theorem witness_EnterRunStartsTheUnits :
    ready.run.runState = .loading ∧ ready.rfc.storeValid = true ∧ ready.path.queue = [] ∧ ready.path.entering = []
      ∧ ready.path.waiters = [] ∧ ready.scan.conv = none ∧ ready.path.held = none ∧ ready.motion.standstill = false
      ∧ (ready.setEntrance 2 (leaf .ajar false)).allSecured = false
      ∧ ((ready.setEntrance 2 (leaf .ajar false)).entrance 2).state = .ajar ∧ State.reset.rfc.storeValid = false
      ∧ served.run.runState ≠ .loading := by
  decide +kernel

theorem test_enter_run :
    Leaves .enterRun ready (fun t => t.run.runState = .run)
      ∧ Leaves .enterRun ready (fun t => t.sup.state ≠ .trip)
      ∧ Leaves .enterRun (ready.setEntrance 2 (leaf .ajar false)) (fun t => t.sup.state = .trip)
      ∧ Leaves .enterRun State.reset (fun t => t.run.runState = .loading) := by
  refine ⟨?_, ?_, ?_, ?_⟩ <;> exact ⟨_, rfl, by decide +kernel⟩

theorem witness_CcrResetsTheHostSide :
    served.inService = true ∧ served.path.map = some map ∧ (atHand served .measure 0 1 0).listed 0 = true
      ∧ (atHand served .measure 0 1 0).listed 1 = false ∧ State.reset.inService = false := by decide

theorem test_ccr :
    ((after (.ccr []) (atHand served .measure 0 1 0)).path.slots.get 0).state = .idle
      ∧ (after (.ccr []) { withBrake .released with sup := { served.sup with traction := 500 } }).rbc.state = .applying
      ∧ (after (.ccr []) { withBrake .released with sup := { served.sup with traction := 500 } }).sup.traction = 0
      ∧ after (.ccr []) State.reset = State.reset := by decide +kernel

/-- A PROFILE_READ of slot 0 whose words and completion wait, beside a word of slot 1. -/
def readWaits : State :=
  let s := atHand busy .profileRead 1 0x8000 32
  { s with path := { s.path with
      queue := [.write 0x8000 1 (.recordWord 0), .write 0x9000 2 .plain]
      waiters := [.accesses [.write 0x8004 3 (.recordWord 0)], completion s map 0 .ok [1],
        .accesses [.write 0x9004 3 (.recordWord 1)]] } }

theorem test_ccr_writes_nothing_more_for_a_listed_read :
    (after (.ccr []) readWaits).path.queue.take 2 = [.write 0x9000 2 .plain, .write 0x9004 3 (.recordWord 1)] := by
  decide +kernel

/-! ### Witnesses: the route flash link -/

/-- The part in RUN under the block that passes. -/
def configured : State := { served with rfc := { served.rfc with store := block } }

/-- A record of segment 1: 1 000 units of 100 mm from position 1 000, with marker 5 at 1 100. -/
def record1 : List Byte :=
  [1, 16, 64, 31, 0, 125, 224, 1, 75, 44, 9, 0, 64, 0, 1, 0,
   0, 0, 0, 168, 0, 50, 0, 0, 0, 0, 0, 0, 0, 0, 0, 151]

/-- A record of segment 0 with a link up to segment 1, that ends at 500 where record 1 begins at 1 000. -/
def record0 : List Byte :=
  [0, 16, 0, 0, 128, 62, 224, 1, 75, 44, 5, 0, 0, 0, 0, 0,
   0, 0, 0, 0, 0, 0, 0, 0, 0, 0, 0, 0, 0, 0, 0, 213]

/-- A record of segment 2, the last: 500 units of 100 mm from position 2 000, no marker and no link up. -/
def record2 : List Byte :=
  [2, 16, 128, 62, 128, 62, 224, 1, 75, 44, 9, 16, 128, 0, 2, 0,
   0, 0, 0, 0, 0, 0, 0, 0, 0, 0, 0, 0, 0, 0, 0, 127]

/-- A FILL under way. -/
def filling (n : Nat) (discard : Bool) : State := { configured with
  rfc := { configured.rfc with inFlight := some (.fill n discard), fills := [n] } }

/-- A FILL that congestion let be carried out for a PROFILE_READ alone. -/
def crowded (n : Nat) : State := { filling n false with rfc := { (filling n false).rfc with uncached := [n] } }

/-- A record of segment 0 linked up to segment 1, in the cache, that ends where record 1 does not begin. -/
def misplaced : State := { filling 1 false with
  prof := { configured.prof with cache := configured.prof.cache.set 0 [⟨true, false, 0, 0, record0⟩] } }

theorem witness_FillIsCheckedAndPlaced :
    (filling 1 false).rfc.inFlight = some (.fill 1 false) ∧ (filling 1 true).rfc.inFlight = some (.fill 1 true)
      ∧ recordReason (takeBytes 32 record1) 1 (Cfg.segmentCount (filling 1 false).cfg) = none
      ∧ recordReason (takeBytes 32 record1) 2 (Cfg.segmentCount (filling 2 false).cfg) ≠ none
      ∧ (filling 1 false).prof.discontinuous (Segment.ofBytes (takeBytes 32 record1)) = none
      ∧ (∃ l ∈ (filling 1 false).prof.setOf 1, l.valid = false ∨ l.pinned = false)
      ∧ (filling 1 false).prof.cache.length = 16 ∧ (∀ ls ∈ (filling 1 false).prof.cache, ls.length = 4)
      ∧ ({ filling 1 false with rfc := { (filling 1 false).rfc with lockout := .waiting } } : State).rfc.lockout = .waiting
      ∧ 1 ∈ (crowded 1).rfc.uncached ∧ 1 ∉ (filling 1 false).rfc.uncached
      ∧ misplaced.prof.discontinuous (Segment.ofBytes (takeBytes 32 record1)) = some 0 := by
  decide +kernel

theorem test_fill_places_a_record_that_passes :
    Leaves (.fill record1) (filling 1 false) (fun t => (t.prof.lineOf 1).map CacheLine.bytes = some record1)
      ∧ Leaves (.fill record1) (filling 1 true) (fun t => t.prof.lineOf 1 = none)
      ∧ Leaves (.fill record1) (filling 2 false) (fun t => t.prof.lineOf 2 = none)
      ∧ Leaves (.fill record1) (filling 2 false) (fun t => t.path.handed.length = 1)
      ∧ Leaves (.fill record1) (crowded 1) (fun t => t.prof.lineOf 1 = none)
      ∧ Leaves (.fill record1) misplaced (fun t => t.prof.lineOf 1 = none)
      ∧ Leaves (.fill record1) misplaced (fun t => t.path.handed.length = 1) := by
  refine ⟨?_, ?_, ?_, ?_, ?_, ?_, ?_⟩ <;> exact ⟨_, rfl, by decide +kernel⟩

/-- A PROFILE_READ in slot 1 that waits for a FILL; carried out for it alone, or with every way of the set pinned. -/
def awaited (n : Nat) (discard : Bool) : State := { filling n discard with
  rfc := { (filling n discard).rfc with fills := [] }
  prof := { configured.prof with reads := [⟨1, 0, n, 0x8000, false⟩] } }

def awaitedAlone (n : Nat) : State := { awaited n false with rfc := { (awaited n false).rfc with uncached := [n] } }

def awaitedFull : State := { awaited 1 false with
  prof := { (awaited 1 false).prof with cache := configured.prof.cache.set 1 ([17, 33, 49, 65].map fun n => ⟨true, true, n, 0, []⟩) } }

theorem witness_WaitingReadsCompleteWithTheirFill :
    (awaited 1 false).path.map = some map ∧ (awaited 1 false).rfc.inFlight = some (.fill 1 false)
      ∧ (awaited 1 true).rfc.inFlight = some (.fill 1 true)
      ∧ (⟨1, 0, 1, 0x8000, false⟩ : ProfileRead) ∈ (awaited 1 false).prof.reads
      ∧ FailsChecks (awaited 2 false) 2 record1 .number
      ∧ PassesChecks (awaited 1 false) 1 record1 (Segment.ofBytes record1) ∧ 1 ∉ (awaited 1 false).rfc.uncached
      ∧ CacheShape (awaited 1 false) ∧ (∃ l ∈ (awaited 1 false).prof.setOf 1, l.valid = false ∨ l.pinned = false)
      ∧ PassesChecks (awaitedAlone 1) 1 record1 (Segment.ofBytes record1) ∧ 1 ∈ (awaitedAlone 1).rfc.uncached
      ∧ PassesChecks awaitedFull 1 record1 (Segment.ofBytes record1)
      ∧ ∀ l ∈ awaitedFull.prof.setOf 1, l.valid = true ∧ l.pinned = true :=
  ⟨rfl, rfl, rfl, by decide, Or.inl (by decide +kernel), ⟨by decide +kernel, by decide +kernel, by decide +kernel⟩, by decide,
    ⟨by decide, by decide⟩, by decide +kernel, ⟨by decide +kernel, by decide +kernel, by decide +kernel⟩, by decide,
    ⟨by decide +kernel, by decide +kernel, by decide +kernel⟩, by decide +kernel⟩

theorem test_waiting_reads :
    Leaves (.fill record1) (awaited 1 false) (fun t => t.path.handed.getLast? = some (completion (awaited 1 false) map 1 .ok [1]))
      ∧ Leaves (.fill record1) (awaitedAlone 1) (fun t => t.path.handed.getLast? = some (completion (awaitedAlone 1) map 1 .ok [2]))
      ∧ Leaves (.fill record1) awaitedFull (fun t => t.path.handed.getLast? = some (completion awaitedFull map 1 .ok [2]))
      ∧ Leaves (.fill record1) (awaited 2 false) (fun t => t.path.handed.length = 10)
      ∧ Leaves (.fill record1) (awaited 1 true) (fun t => t.rfc.inFlight = some (.fill 1 false)) := by
  refine ⟨?_, ?_, ?_, ?_, ?_⟩ <;> exact ⟨_, rfl, by decide +kernel⟩

/-- A flash operation under way at a step: three bytes at address 0, buffer 8000h, slot 2. -/
def atStep (k : FlashKind) (st : FlashStep) : CurrentFlash := ⟨⟨k, 2, 0, 0, 3, 0x8000⟩, st, 4995, 1, 0, 0, false⟩

/-- The part with it current and a lockout. -/
def flashing (k : FlashKind) (st : FlashStep) (l : Lockout) : State := { configured with
  rfc := { configured.rfc with current := some (.flash (atStep k st)), lockout := l } }

/-- A FLASH_READ of three bytes on the link, so many of them moved. -/
def reading (moved : Nat) (part : List Byte) : State :=
  let s := flashing .read .readMoving .clear
  { s with rfc := { s.rfc with inFlight := some (.serviceRead moved part) } }

theorem witness_ServiceReadHandsItsWords :
    (reading 1 [1]).path.map = some map ∧ (reading 1 [1]).rfc.inFlight = some (.serviceRead 1 [1])
      ∧ (reading 1 [1]).rfc.current = some (.flash (atStep .read .readMoving)) ∧ (atStep .read .readMoving).step = .readMoving
      ∧ (reading 1 [1]).clockStopped (atStep .read .readMoving).op.goOrder = false
      ∧ (after (.serviceRead [2, 3]) (jammed (reading 1 [1]))).clockStopped (atStep .read .readMoving).op.goOrder = true
      ∧ (atStep .read .readMoving).op.wordReady 3 [1, 2, 3] = true ∧ (atStep .read .readMoving).op.wordReady 2 [1, 2] = false
      ∧ (atStep .read .readMoving).op.count ≤ 3 := by decide +kernel

theorem test_service_read :
    Leaves (.serviceRead [2]) (reading 1 [1]) (fun t => t.rfc.inFlight = some (.serviceRead 2 [1, 2]))
      ∧ Leaves (.serviceRead [2, 3]) (reading 1 [1]) (fun t => t.path.handed = [.accesses [.write 0x8000 0x030201 (.flashWord 0)]])
      ∧ Leaves (.serviceRead []) (after (.serviceRead [2, 3]) (jammed (reading 1 [1]))) (fun t => t.rfc.current ≠ none)
      ∧ Leaves (.serviceRead []) (reading 3 []) (fun t => t.rfc.current = none)
      ∧ Leaves (.serviceRead []) (reading 3 []) (fun t => t.path.handed.length = 1) := by
  refine ⟨?_, ?_, ?_, ?_, ?_⟩ <;> exact ⟨_, rfl, by decide +kernel⟩

theorem witness_ProgramAndEraseGoThroughTheirSteps :
    (flashing .program (.dataReading 1) .set).inService = true
      ∧ (flashing .program (.dataReading 1) .set).rfc.current = some (.flash (atStep .program (.dataReading 1)))
      ∧ (atStep .program (.dataReading 1)).op.words ≤ 1 ∧ ¬(atStep .program (.dataReading 0)).op.words ≤ 0
      ∧ (flashing .program (.dataReading 1) .waiting).rfc.lockout = .waiting ∧ (flashing .program (.dataReading 1) .set).rfc.lockout = .set
      ∧ (flashing .program (.dataReading 1) .set).rfc.inFlight = none
      ∧ (atStep .program .enableMoving).step = .enableMoving ∧ (atStep .erase .writeMoving).step = .writeMoving
      ∧ (atStep .program .enableMoving).op.kind = .program ∧ (atStep .erase .enableMoving).op.kind = .erase
      ∧ (atStep .erase .pollWaiting).step = .pollWaiting
      ∧ (atStep .erase .pollWaiting).nextPoll ≤ elapsed (flashing .erase .pollWaiting .set).now (atStep .erase .pollWaiting).ended
      ∧ elapsed (4995 : Time) (atStep .erase .pollWaiting).ended < (atStep .erase .pollWaiting).nextPoll := by
  decide +kernel

theorem test_steps_of_an_erase :
    (after .writeEnable (flashing .erase .enableMoving .set)).rfc.inFlight = some .erase
      ∧ (after .writeEnable (flashing .program .enableMoving .set)).rfc.inFlight = some .program
      ∧ (after .programDataRead (flashing .program (.dataReading 1) .set)).rfc.inFlight = some .writeEnable
      ∧ (after .programDataRead (flashing .program (.dataReading 1) .waiting)).rfc.inFlight = none
      ∧ (after .pollReady (flashing .erase .pollWaiting .set)).rfc.inFlight = some .statusPoll := by decide +kernel

theorem witness_ProgramAndEraseGoThroughTheirSteps_polls :
    (flashing .erase .pollMoving .set).path.map = some map
      ∧ (flashing .erase .pollMoving .set).rfc.current = some (.flash (atStep .erase .pollMoving))
      ∧ (atStep .erase .pollMoving).step = .pollMoving ∧ (atStep .erase .pollMoving).op.kind ≠ .read
      ∧ (1 : Byte).getLsbD (Cfg.busyBit (flashing .erase .pollMoving .set).cfg) = true
      ∧ (0 : Byte).getLsbD (Cfg.busyBit (flashing .erase .pollMoving .set).cfg) = false
      ∧ (atStep .erase .pollMoving).lastPoll + 1 ≤ 2000 ∧ (atStep .erase .pollMoving).suppressed = false
      ∧ 50 < ({ atStep .program .pollMoving with lastPoll := 50 }).lastPoll + 1 := by decide +kernel

theorem test_status_poll :
    Leaves (.statusPoll 1) (flashing .erase .pollMoving .set) (fun t => t.path.handed.length = 0)
      ∧ Leaves (.statusPoll 0) (flashing .erase .pollMoving .set) (fun t => t.path.handed.length = 1)
      ∧ Leaves (.statusPoll 0) (flashing .erase .pollMoving .set) (fun t => t.rfc.current = none) := by
  refine ⟨?_, ?_, ?_⟩ <;> exact ⟨_, rfl, by decide +kernel⟩

/-! ### Witnesses: the field side -/

/-- Pinion A about to count, so many steps counted. -/
def counting (n : Int) (armed : Bool) (s : State) : State := { s with
  tooth := s.tooth.set .pinionA { ToothChannel.reset with steps := n, armed := armed } }

/-- The Wheel at its last step with an accumulator, a position of 10, and 600 pulses in 10 m. -/
def rolling (n : Int) : State := { served with
  rfc := { served.rfc with store := List.replicate 66 0 ++ [88, 2] ++ List.replicate 444 0 }
  tooth := served.tooth.set .wheel { ToothChannel.reset with steps := 3 }
  motion := { served.motion with source := .wheel, posState := .confirmed, position := 10, accumulator := n } }

theorem witness_PhaseChangesCountToToothEvents :
    faulted.run.runState = .configFault ∧ State.reset.run.runState = .loading ∧ (counting 3 false served).inService = true
      ∧ (phaseCode true false + 4 - phaseCode false false) % 4 = 1
      ∧ (phaseCode false true + 4 - phaseCode false false) % 4 = 3
      ∧ (phaseCode true true + 4 - phaseCode false false) % 4 = 2
      ∧ (phaseCode false false + 4 - phaseCode false false) % 4 = 0
      ∧ ((2 : Int) + 1).natAbs < 4 ∧ 4 ≤ ((3 : Int) + 1).natAbs ∧ 4 ≤ ((-3 : Int) - 1).natAbs
      ∧ (counting 3 true stabled).run.runState = .stabled ∧ ((counting 3 true stabled).tooth.get .pinionA).armed = true
      ∧ (withEntrance 0 (leaf .ajar false)).allSecured = false
      ∧ (rolling 500).motion.source = .wheel ∧ (rolling 500).motion.posState ≠ .unknown := by decide

theorem test_the_wheel_steps_at_its_pulses :
    (after (.phaseChange .wheel .above .below) (rolling 500)).motion.position = 11
      ∧ (after (.phaseChange .wheel .above .below) (rolling 500)).motion.accumulator = 0
      ∧ (after (.phaseChange .wheel .above .below) (rolling 499)).motion.position = 10
      ∧ (after (.phaseChange .wheel .above .below) (rolling 499)).motion.accumulator = 599
      ∧ Cfg.wheelPulses (rolling 500).cfg = 600 := by decide +kernel

theorem test_the_fourth_step_is_a_tooth_event :
    Leaves (.phaseChange .pinionA .above .below) (counting 3 false served) (fun t => t.motion.standstill = false)
      ∧ Leaves (.phaseChange .pinionA .above .below) (counting 2 false served) (fun t => t.motion.standstill = true)
      ∧ Leaves (.phaseChange .pinionA .above .above) (counting 2 false served) (fun t => (t.tooth.get .pinionA).phaseError = true)
      ∧ Leaves (.phaseChange .pinionA .below .above) (counting (-3) true stabled) (fun t => t.run.runState = .run)
      ∧ Leaves (.phaseChange .pinionA .above .below) (counting 3 false (withEntrance 0 (leaf .ajar false))) (fun t => t.sup.state = .trip) := by
  refine ⟨?_, ?_, ?_, ?_, ?_⟩ <;> exact ⟨_, rfl, by decide +kernel⟩

/-- The same with 25 pulses in 10 m, so that one event is four steps. -/
def geared (n : Int) : State := { rolling n with rfc := configured.rfc }

/-- Pinion A about to count on rack, with a difference. -/
def racked (d : Int) : State := { counting 3 false configured with
  prof := { configured.prof with
    cache := configured.prof.cache.set 1 (⟨true, true, 1, 0, [1, 32, 64, 31]⟩ :: List.replicate 3 ⟨false, false, 0, 0, []⟩)
    window := [⟨1, .main, .present, some .main⟩]
    refSeg := some 1
    front := some 1 }
  motion := { configured.motion with difference := d, source := .pinionA, posState := .confirmed, position := 1200 } }

theorem witness_ToothEventsCountStepsRollbackAndDifference :
    MotionBounds (geared 0) ∧ MakesToothEvent (geared 0) .wheel .above .below .up ∧ (geared 0).motion.source = .wheel
      ∧ 10 ≤ Cfg.wheelPulses (geared 0).cfg ∧ (geared 24).motion.accumulator.natAbs < Cfg.wheelPulses (geared 24).cfg
      ∧ (∀ l ∈ (geared 0).prof.validLines, (Segment.ofBytes l.bytes).kind ≠ .rack) ∧ (geared 0).motion.posState ≠ .unknown
      ∧ MotionBounds (racked 2) ∧ MakesToothEvent (racked 2) .pinionA .above .below .up ∧ (racked 2).motion.source = .pinionA
      ∧ (racked 2).motion.rackEntryPending = false ∧ (racked 2).motion.source.isChannel .pinionB = false := by
  unfold MotionBounds MakesToothEvent
  decide +kernel

theorem test_steps_rollback_and_difference :
    (after (.phaseChange .wheel .above .below) (geared 0)).motion.position = 14
      ∧ (after (.phaseChange .wheel .above .below) (geared 24)).motion.accumulator = 24
      ∧ (after (.phaseChange .wheel .above .below) (geared 0)).sup.causes = [.rollback]
      ∧ (after (.phaseChange .pinionA .above .below) (racked 2)).motion.difference = 3
      ∧ (after (.phaseChange .pinionA .above .below) (racked 2)).sup.causes = [.pinionDisagree]
      ∧ (after (.phaseChange .pinionA .above .below) (racked 1)).sup.causes = []
      ∧ (after (.phaseChange .pinionA .above .below) (racked 1)).motion.rollback = 1 := by decide +kernel

/-- The Wheel channel with an event at 0, and a clock. -/
def silent (now : Time) : State := { moving with
  run := ⟨.run, now, none⟩
  tooth := moving.tooth.set .wheel { ToothChannel.reset with lastEvent := some 0 } }

theorem witness_LongIntervalsEndInStandstill :
    (silent 65535).inService = true ∧ ((silent 65535).tooth.get .wheel).lastEvent = some 0
      ∧ 65535 ≤ elapsed (silent 65535).now 0 ∧ elapsed (silent 65534).now 0 < 65535
      ∧ (silent 1500).run.runState ≠ .configFault ∧ (silent 1500).motion.standstill = false
      ∧ 1500 ≤ elapsed (silent 1500).now (silent 1500).motion.standstillTimer
      ∧ elapsed (silent 1499).now (silent 1499).motion.standstillTimer < 1500 := by decide

theorem test_standstill_after_1500_ms :
    (after .standstill (silent 1500)).motion.standstill = true ∧ (after .standstill (silent 1499)).motion.standstill = false
      ∧ ((after (.toothIntervalExpiry .wheel) (silent 65535)).tooth.get .wheel).lastEvent = none
      ∧ ((after (.toothIntervalExpiry .wheel) (silent 65534)).tooth.get .wheel).lastEvent = some 0 := by decide

/-- The cache lines of record 1 and of nothing. -/
def record1Line : CacheLine := ⟨true, true, 1, 0, record1⟩

def emptyLine : CacheLine := ⟨false, false, 0, 0, []⟩

/-- Segment 1 the front segment, the car at a position on MAIN. -/
def standing (x : Nat) : State := { configured with
  prof := { configured.prof with
    cache := configured.prof.cache.set 1 (record1Line :: List.replicate 3 emptyLine)
    window := [⟨1, .main, .present, some .main⟩]
    refSeg := some 1
    front := some 1 }
  motion := { configured.motion with position := x, posState := .confirmed, track := some .main } }

theorem witness_MarkerEventsSetThePosition :
    State.reset.inService = false ∧ configured.inService = true ∧ configured.motion.posState = .unknown
      ∧ configured.prof.walk = none ∧ configured.prof.search = none ∧ 0 < Cfg.segmentCount configured.cfg
      ∧ configured.prof.recordOf 0 = none ∧ configured.prof.allPinned 0 = false ∧ (5 : BitVec 10) ≠ 0
      ∧ (standing 1200).motion.posState ≠ .unknown ∧ (standing 1200).prof.lookupMarker 6 = none
      ∧ ((standing 1200).prof.lookupMarker 5).map (fun p => p.2) = some 1100
      ∧ ((standing 1200).prof.lookupMarker 5).map (fun p => p.1.track) = (standing 1200).motion.track
      ∧ Cfg.markerTolerance (standing 1200).cfg = 20 ∧ Cfg.readerOffset (standing 1200).cfg = 20 := by decide +kernel

theorem witness_MarkerEventsSetThePosition_kept :
    (standing 1140).prof.recordOf 1 = (standing 1140).prof.presentRec 1
      ∧ ((standing 1140).prof.recordOf 1).map (fun r => (r.number, r.holds 1120)) = some (1, true)
      ∧ (∀ l ∈ (after (.markerEvent 5) (standing 1140)).prof.validLines, l.tag ≠ 1 →
          (Segment.ofBytes l.bytes).holds 1120 = false) := by decide +kernel

theorem test_a_marker_that_mismatches_is_the_correcting_one :
    Leaves (.markerEvent 5) (standing 1500) (fun t => t.motion.correcting = some 5 ∧ t.motion.track = some .main
        ∧ t.prof.refSeg = some 1)
      ∧ Leaves (.markerEvent 5) { standing 1140 with motion := { (standing 1140).motion with
          posState := .doubtful, correcting := some 5 } }
          (fun t => t.motion.posState = .doubtful ∧ t.motion.correcting = some 5)
      ∧ Leaves (.markerEvent 5) { standing 1140 with motion := { (standing 1140).motion with
          posState := .doubtful, correcting := some 4 } }
          (fun t => t.motion.posState = .confirmed ∧ t.motion.correcting = none) := by
  refine ⟨?_, ?_, ?_⟩ <;> exact ⟨_, rfl, by decide +kernel⟩

theorem test_marker_events :
    (after (.markerEvent 5) configured).prof.search = some ⟨5, 0⟩
      ∧ (after (.markerEvent 5) (standing 1500)).motion.posState = .doubtful
      ∧ (after (.markerEvent 5) (standing 1140)).motion.posState = .confirmed
      ∧ (after (.markerEvent 5) (standing 1141)).motion.posState = .doubtful
      ∧ (after (.markerEvent 6) (standing 1500)).motion.position = 1500 := by decide +kernel

/-- The car standing at 1 200 on segment 1 with direction UP, the authority up to 1 900. -/
def travelling (v : Nat) : State := { standing 1200 with
  sup := { (standing 1200).sup with direction := .up }
  motion := { (standing 1200).motion with speed := v, standstill := decide (v = 0) }
  vlu := { (standing 1200).vlu with authority := some ⟨false, .up, 1900, .none, 60000, none⟩, radio := .up } }

theorem witness_EvaluationDecidesTheSupervisor :
    Serving (travelling 0) map ∧ classify map 0x1004 = .guarded .traction ∧ (travelling 0).run.runState = .run
      ∧ PortIdle (travelling 0) ∧ (travelling 0).sup.state ≠ .trip ∧ tripped.sup.state = .trip
      ∧ (after (.traction 0x1004 0) (travelling 0)).motion.posState ≠ .unknown
      ∧ (after (.traction 0x1004 0) (travelling 0)).sup.direction = Way.up.dir :=
  ⟨⟨rfl, rfl, rfl, rfl, rfl⟩, by decide, rfl, fun _ => ⟨rfl, rfl, rfl⟩, by decide, rfl, by decide +kernel, by decide +kernel⟩

theorem test_evaluation :
    (after (.traction 0x1004 0) (travelling 100)).sup.limit = 300
      ∧ ((after (.traction 0x1004 0) (travelling 100)).sup.targets.map fun x => (x.point, x.distance, x.speed)) = [(1900, 700, 0)]
      ∧ (after (.traction 0x1004 0) (travelling 100)).sup.state = .normal
      ∧ (after (.traction 0x1004 0) (travelling 301)).sup.state ≠ .normal
      ∧ (after (.traction 0x1004 0) (travelling 345)).sup.causes = [.overspeed] := by decide +kernel

/-- The reference segment 1, cached or not, and no window. -/
def referred (kept : Bool) (x : Nat) : State := { configured with
  prof := { configured.prof with
    cache := if kept then configured.prof.cache.set 1 (record1Line :: List.replicate 3 emptyLine) else configured.prof.cache
    refSeg := some 1 }
  motion := { configured.motion with position := x, posState := .confirmed, track := some .main } }

/-- A FILL for the last window entry. -/
def extending : State := { filling 1 false with
  rfc := { (filling 1 false).rfc with fills := [] }
  sup := { configured.sup with direction := .up }
  prof := { configured.prof with window := [⟨1, .main, .filling, none⟩], refSeg := some 1, front := some 1, endKind := .pending }
  motion := { configured.motion with position := 1200, posState := .confirmed, track := some .main } }

/-- The cache invariant where no fill waits, from what can be computed. -/
theorem cache_inv_of {s : State} (shape : s.prof.cache.length = 16 ∧ ∀ ls ∈ s.prof.cache, ls.length = 4)
    (sets : ∀ k < 16, (∀ l ∈ s.prof.cache.getD k [], l.valid = true → l.tag % 16 = k)
      ∧ (((s.prof.cache.getD k []).filter CacheLine.valid).map CacheLine.tag).Nodup)
    (waiting : s.rfc.fills = []) (flying : ∀ n d, s.rfc.inFlight = some (.fill n d) → s.prof.lineOf n = none)
    (window : s.prof.window.length ≤ 14 ∧ (s.prof.window.map Entry.seg).Nodup
      ∧ ∀ e ∈ s.prof.window, e.state = .present → (s.prof.lineOf e.seg).any CacheLine.pinned = true) : CacheInv s := by
  refine ⟨shape, fun k ls h => ?_, by simp [waiting], fun n d _ => by simp [waiting], fun n h => ?_, window.1, window.2.1,
    fun e he hp => ?_⟩
  · have hk : k < 16 := shape.1 ▸ (List.getElem?_eq_some_iff.mp h).1
    simpa [List.getD, h] using sets k hk
  · simp only [RfcUnit.fillKnown, waiting] at h
    split at h
    · rename_i m d hf
      simp at h
      exact h ▸ flying m d hf
    · simp at h
  · simpa [Option.any_eq_true] using window.2.2 e he hp

theorem cache_inv_extending : CacheInv extending :=
  cache_inv_of (by decide) (by decide +kernel) rfl (fun n d h => by cases h; decide +kernel) (by decide +kernel)

theorem cache_inv_referred : CacheInv (referred true 1200) ∧ CacheInv (referred false 1200) :=
  ⟨cache_inv_of (by decide) (by decide +kernel) rfl (fun n d h => by cases h) (by decide +kernel),
    cache_inv_of (by decide) (by decide +kernel) rfl (fun n d h => by cases h) (by decide +kernel)⟩

/-- The car about to stand, its speed still formed. -/
def halting : State := { travelling 100 with motion := { (travelling 100).motion with standstillTimer := 3500 } }

theorem cache_inv_halting : CacheInv halting :=
  cache_inv_of (by decide) (by decide +kernel) rfl (fun n d h => by cases h) (by decide +kernel)


/-- A reference record of segment 0 with no link that does not hold the position: LINE_END. -/
def ended : State := { referred false 1200 with
  prof := { (referred false 1200).prof with
    cache := configured.prof.cache.set 0 (⟨true, true, 0, 0, List.replicate 32 0⟩ :: List.replicate 3 emptyLine)
    refSeg := some 0 } }

/-- A reference record that is not cached, its set pinned in full: CONGESTION. -/
def congested : State := { referred false 1200 with
  prof := { (referred false 1200).prof with
    cache := configured.prof.cache.set 1 ([17, 33, 49, 65].map fun n => ⟨true, true, n, 0, []⟩) } }

theorem witness_RouteWindowEndsByItsEndKind_losses :
    CacheInv ended ∧ Serving ended map ∧ PortIdle ended ∧ ended.motion.standstill = true ∧ ended.prof.refSeg = some 0
      ∧ ((ended.prof.recordOf 0).map fun r => (r.holds 1200, r.passedBy .up 1200, r.next .up)) = some (false, true, none)
      ∧ CacheInv congested ∧ Serving congested map ∧ PortIdle congested ∧ congested.prof.refSeg = some 1
      ∧ congested.prof.recordOf 1 = none ∧ congested.rfc.fillKnown 1 = false
      ∧ (∀ l ∈ congested.prof.setOf 1, l.pinned = true
          ∧ (l.valid = true → ∀ e ∈ congested.prof.window, e.state = .present → e.seg ≠ l.tag)) :=
  ⟨cache_inv_of (by decide) (by decide +kernel) rfl (fun n d h => by cases h) (by decide +kernel), ⟨rfl, rfl, rfl, rfl, rfl⟩,
    fun _ => ⟨rfl, rfl, rfl⟩, rfl, rfl, by decide +kernel,
    cache_inv_of (by decide) (by decide +kernel) rfl (fun n d h => by cases h) (by decide +kernel), ⟨rfl, rfl, rfl, rfl, rfl⟩,
    fun _ => ⟨rfl, rfl, rfl⟩, rfl, by decide +kernel, by decide +kernel, by decide +kernel⟩

theorem test_reference_losses :
    Leaves (.direction 0x1000 1) ended (fun t => ReferenceLost ended t .lineEnd)
      ∧ Leaves (.direction 0x1000 1) congested (fun t => ReferenceLost congested t .congestion) :=
  ⟨⟨_, rfl, by unfold ReferenceLost; decide +kernel⟩, ⟨_, rfl, by unfold ReferenceLost; decide +kernel⟩⟩

/-- The front in segment 0, whose record is on its way like that of segment 1, where the car has gone since. -/
def frontMoves : State := { filling 0 false with
  rfc := { (filling 0 false).rfc with fills := [] }
  sup := { configured.sup with direction := .up }
  prof := { configured.prof with
    cache := configured.prof.cache.set 2 (⟨true, true, 2, 0, record2⟩ :: List.replicate 3 emptyLine)
    window := [⟨0, .main, .filling, none⟩, ⟨1, .main, .filling, none⟩, ⟨2, .main, .present, some .main⟩]
    refSeg := some 0, front := some 0, endKind := .count }
  motion := { configured.motion with position := 1200, posState := .confirmed, track := some .main } }

theorem witness_RouteWindowEndsByItsEndKind_front :
    CacheInv frontMoves ∧ frontMoves.rfc.inFlight = some (.fill 0 false) ∧ 0 ∉ frontMoves.rfc.uncached
      ∧ recordReason (takeBytes 32 record0) 0 (Cfg.segmentCount frontMoves.cfg) = none
      ∧ frontMoves.prof.discontinuous (Segment.ofBytes (takeBytes 32 record0)) = none
      ∧ (∃ l ∈ frontMoves.prof.setOf 0, l.valid = false ∨ l.pinned = false) ∧ frontMoves.sup.direction ≠ .none
      ∧ (⟨0, .main, .filling, none⟩ : Entry) ∈ frontMoves.prof.window
      ∧ (after (.fill record0) frontMoves).prof.front ≠ frontMoves.prof.front :=
  ⟨cache_inv_of (by decide) (by decide +kernel) rfl (fun n d h => by cases h; decide +kernel) (by decide +kernel),
    by decide +kernel⟩

theorem test_an_arrival_that_moves_the_front_extends_the_window :
    Leaves (.fill record0) frontMoves (fun t => t.prof.front = some 1 ∧ t.prof.endKind = .distance
      ∧ t.prof.window.map Entry.seg = [1, 2]) := ⟨_, rfl, by decide +kernel⟩

/-- With direction NONE a far entry on a loop, which the car has left. -/
def farLoop : State := { standing 1140 with
  prof := { (standing 1140).prof with
    window := [⟨1, .main, .present, some .main⟩, ⟨2, .main, .filling, some .loopA⟩], loopTaken := .loopA } }

theorem test_the_loop_taken_ends_at_the_far_end_too :
    (after (.markerEvent 5) farLoop).prof.loopTaken = .none
      ∧ ((after (.markerEvent 5) farLoop).prof.window.map Entry.seg) = [0, 1] := by decide +kernel

/-- With direction NONE, segment 1 the last entry and the entry below it not PRESENT; the car rolls DOWN by four steps. -/
def rollingOff (x : Nat) (below : EntryState) (last : EntryState) : State := { standing x with
  tooth := served.tooth.set .wheel { ToothChannel.reset with steps := -3 }
  prof := { (standing x).prof with
    window := [⟨0, .main, below, none⟩, ⟨1, .main, last, some .main⟩] } }

theorem test_the_far_end_leaves_an_entry_over_one_not_present :
    ((after (.phaseChange .wheel .below .above) (rollingOff 1002 .bad .present)).prof.window.map Entry.seg) = [0]
      ∧ ((after (.phaseChange .wheel .below .above) (rollingOff 1002 .bad .present)).prof.lineOf 1).map CacheLine.pinned
          = some false
      ∧ (after (.phaseChange .wheel .below .above) (rollingOff 1002 .bad .present)).prof.refSeg = some 0
      ∧ ((after (.phaseChange .wheel .below .above) (rollingOff 1010 .bad .present)).prof.window.map Entry.seg) = [0, 1] := by
  decide +kernel

/-- Both entries on their way, the car below segment 1, whose record arrives. -/
def farArrives : State := { filling 1 false with
  rfc := { (filling 1 false).rfc with fills := [] }
  prof := { configured.prof with
    window := [⟨0, .main, .filling, none⟩, ⟨1, .main, .filling, none⟩], refSeg := some 0, front := some 0 }
  motion := { configured.motion with position := 900, posState := .confirmed, track := some .main } }

theorem test_an_arrival_shows_the_far_entry_left :
    ((after (.fill record1) farArrives).prof.window.map Entry.seg) = [0]
      ∧ ((after (.fill record1) farArrives).prof.lineOf 1).map CacheLine.pinned = some false := by decide +kernel

/-- A FILL that a marker search or a walk waits for, with a movement counted since. -/
def searching (n code : Nat) : State := { filling n false with
  rfc := { (filling n false).rfc with fills := [] }
  prof := { configured.prof with search := some ⟨code, n⟩ }
  motion := { configured.motion with pendingCount := some 7 } }

def walking (p : Nat) (tr : Track) (n steps : Nat) : State := { filling n false with
  rfc := { (filling n false).rfc with fills := [] }
  prof := { configured.prof with walk := some ⟨p, tr, n, steps⟩ }
  motion := { configured.motion with pendingCount := some (-7) } }

/-- A record that passes arrives in an empty cache with no window. -/
theorem arrives_of {s : State} {n : Nat} {data : List Byte} (fly : s.rfc.inFlight = some (.fill n false)) (hn : n < 3)
    (hp : PassesChecks s n data (Segment.ofBytes (takeBytes 32 data))) (cache : s.prof.cache = configured.prof.cache := by rfl)
    (unc : s.rfc.uncached = [] := by rfl) (fills : s.rfc.fills = [] := by rfl) (window : s.prof.window = [] := by rfl) :
    ArrivesPlaced s n data (Segment.ofBytes (takeBytes 32 data)) := by
  have empty : ∀ k < 3, configured.prof.lineOf k = none ∧ ∃ l ∈ configured.prof.setOf k, l.valid = false ∨ l.pinned = false := by
    decide +kernel
  refine ⟨fly, by simp [unc], hp, cache_inv_of (by rw [cache]; decide) (by rw [cache]; decide +kernel) fills (fun m d hf => ?_)
    (by simp [window]), ?_⟩
  · rw [fly] at hf
    cases hf
    simpa [ProfileUnit.lineOf, ProfileUnit.setOf, cache] using (empty n hn).1
  · simpa [ProfileUnit.setOf, cache] using (empty n hn).2

theorem witness_SearchesAndWalksSetThePosition :
    ArrivesPlaced (searching 1 5) 1 record1 (Segment.ofBytes record1) ∧ (Segment.ofBytes record1).markerPos 5 = some 1100
      ∧ (Segment.ofBytes record1).markerPos 6 = none ∧ Cfg.segmentCount (searching 1 5).cfg = 3
      ∧ (searching 1 5).prof.search = some ⟨5, 1⟩ ∧ (searching 1 5).motion.posState = .unknown
      ∧ (searching 1 5).prof.window = [] ∧ (searching 1 5).prof.walk = none ∧ (searching 1 5).prof.rebuild = none
      ∧ (searching 1 5).prof.recordOf 2 = none ∧ (searching 1 5).prof.allPinned 2 = false
      ∧ ArrivesPlaced (searching 2 5) 2 record2 (Segment.ofBytes record2) ∧ FailsChecks (searching 2 5) 2 record1 .number
      ∧ ArrivesPlaced (walking 1500 .main 1 64) 1 record1 (Segment.ofBytes record1)
      ∧ (Segment.ofBytes record1).holds 1500 = true ∧ (Segment.ofBytes record1).track = .main
      ∧ (Segment.ofBytes record1).holds 2200 = false ∧ (Segment.ofBytes record1).next .up = some 2
      ∧ (Segment.ofBytes record1).stop = 2000 ∧ (walking 2200 .main 1 63).prof.recordOf 2 = none
      ∧ (Segment.ofBytes record2).next .up = none ∧ (walking 2200 .main 1 63).prof.allPinned 2 = false
      ∧ FailsChecks (walking 2200 .main 2 3) 2 record1 .number ∧ (walking 2200 .main 2 3).prof.search = none :=
  ⟨arrives_of (data := record1) rfl (by decide) ⟨rfl, by decide +kernel, by decide +kernel⟩, by decide +kernel, by decide +kernel,
    by decide +kernel, rfl, rfl, rfl, rfl, rfl, by decide +kernel, by decide +kernel,
    arrives_of (data := record2) rfl (by decide) ⟨rfl, by decide +kernel, by decide +kernel⟩, Or.inl (by decide +kernel),
    arrives_of (data := record1) rfl (by decide) ⟨rfl, by decide +kernel, by decide +kernel⟩,
    by decide +kernel, by decide +kernel, by decide +kernel, by decide +kernel, by decide +kernel, by decide +kernel,
    by decide +kernel, by decide +kernel, Or.inl (by decide +kernel), rfl⟩

theorem test_searches_and_walks :
    Leaves (.fill record1) (searching 1 5) (fun t => t.motion.position = 1127)
      ∧ Leaves (.fill record1) (searching 1 5) (fun t => t.motion.posState = .confirmed)
      ∧ Leaves (.fill record1) (searching 1 6) (fun t => t.prof.search = some ⟨6, 2⟩)
      ∧ Leaves (.fill record2) (searching 2 5) (fun t => t.path.handed = [.notice ⟨0x0404, 4, .info, 5, 0, 0⟩])
      ∧ Leaves (.fill record1) (walking 1500 .main 1 3) (fun t => t.motion.position = 1493)
      ∧ Leaves (.fill record1) (walking 1500 .main 1 3) (fun t => t.motion.posState = .provisional)
      ∧ Leaves (.fill record1) (walking 1500 .loopA 1 3) (fun t => t.path.handed = [.notice ⟨0x0403, 4, .warn, 1500, 0x1F02, 0⟩])
      ∧ Leaves (.fill record1) (walking 2200 .main 1 63) (fun t => t.prof.walk = some ⟨2200, .main, 2, 64⟩)
      ∧ Leaves (.fill record1) (walking 2200 .main 1 64) (fun t => t.prof.walk = none)
      ∧ Leaves (.fill record2) (walking 2600 .main 2 3) (fun t => t.prof.walk = none)
      ∧ Leaves (.fill record1) (walking 2200 .main 2 3) (fun t => t.path.handed.length = 2) := by
  refine ⟨?_, ?_, ?_, ?_, ?_, ?_, ?_, ?_, ?_, ?_, ?_⟩ <;> exact ⟨_, rfl, by decide +kernel⟩

theorem witness_RouteWindowEndsByItsEndKind :
    Serving (referred true 1200) map ∧ PortIdle (referred true 1200) ∧ CacheInv (referred true 1200)
      ∧ CacheInv (referred false 1200) ∧ CacheInv extending ∧ CacheInv halting ∧ classify map 0x1000 = .guarded .direction
      ∧ (referred true 1200).motion.standstill = true ∧ (1 : Word).toNat ≠ (referred true 1200).sup.direction.code
      ∧ (referred true 1200).prof.refSeg = some 1
      ∧ ((referred true 1200).prof.recordOf 1).map (fun r => r.holds 1200) = some true
      ∧ (referred false 1200).prof.recordOf 1 = none ∧ (∃ l ∈ (referred false 1200).prof.setOf 1, l.pinned = false)
      ∧ extending.rfc.inFlight = some (.fill 1 false) ∧ 1 ∉ extending.rfc.uncached ∧ extending.sup.direction ≠ .none
      ∧ extending.prof.rebuild = none ∧ extending.prof.walk = none ∧ extending.prof.search = none
      ∧ extending.prof.window.getLast? = some ⟨1, .main, .filling, none⟩
      ∧ (halting.run.runState ≠ .configFault ∧ halting.motion.standstill = false
          ∧ 1500 ≤ elapsed halting.now halting.motion.standstillTimer ∧ halting.motion.speed ≠ 0
          ∧ halting.sup.direction ≠ .none ∧ halting.prof.window ≠ []) :=
  ⟨⟨rfl, rfl, rfl, rfl, rfl⟩, fun _ => ⟨rfl, rfl, rfl⟩, cache_inv_referred.1, cache_inv_referred.2, cache_inv_extending,
    cache_inv_halting, by decide +kernel⟩

theorem test_route_window :
    ((after (.direction 0x1000 1) (referred true 1950)).prof.window.map Entry.seg) = [1, 2]
      ∧ (after (.direction 0x1000 1) (referred true 1950)).prof.endKind = .pending
      ∧ (after (.direction 0x1000 1) (referred true 1200)).prof.endKind = .distance
      ∧ (after (.direction 0x1000 1) (referred false 1200)).prof.rebuild = some 0
      ∧ ((after (.fill record1) extending).prof.window.map Entry.state) = [.present]
      ∧ (after (.fill record1) extending).prof.endKind = .distance ∧ (after .standstill halting).prof.endKind = .distance := by decide +kernel

/-- A conversion under way. -/
def converting (x : Source) (p : ConvPurpose) (m : MeasState) (list : List Source) (spots : List Spot) : State :=
  { configured with
    scan := { configured.scan with running := true, meas := m, conv := some ⟨x, p⟩, list := list, spots := spots, cr1Passed := true } }

/-- A MEASURE of PA in slot 1 with so many conversions to make. -/
def spotOf (n : Nat) (x : Source) : Spot := ⟨1, x, n, 0, 0, 0, 0, 0⟩

/-- The scan idle, with a period passed and a count towards the check scan. -/
def due (n : Nat) (m : MeasState) : State := { configured with
  scan := { configured.scan with running := true, meas := m, checkDue := n } }

theorem witness_ScansConvertTheChannels :
    (due 0 .valid).scanDue = true ∧ (due 0 .valid).scan.conv = none ∧ (due 99 .valid).scan.checkDue ≠ 0
      ∧ (due 99 .valid).scan.spots = [] ∧ (due 5 .fault).scan.meas = .fault ∧ configured.scanDue = false
      ∧ (converting .vs .scanList .qualifying [] []).scan.conv = some ⟨.vs, .scanList⟩
      ∧ (converting .vs .scanList .qualifying [] []).scan.meas = .qualifying
      ∧ (converting .ph .scanList .valid [.inc, .vs] []).scan.conv = some ⟨.ph, .scanList⟩
      ∧ (converting .pa (.spot 1) .valid [] [spotOf 1 .pa]).scan.conv = some ⟨.pa, .spot 1⟩
      ∧ (converting .pa (.spot 1) .valid [] [spotOf 1 .pa]).scan.spots = [spotOf 1 .pa]
      ∧ (converting .pa (.spot 1) .valid [] [spotOf 2 .pa]).scan.spots = [spotOf 2 .pa]
      ∧ (spotOf 1 .pa).slot = 1 ∧ (spotOf 1 .pa).remaining = 1 ∧ 2 ≤ (spotOf 2 .pa).remaining := by decide +kernel

theorem test_scans_and_conversions :
    Leaves .scanStart (due 99 .valid) (fun t => t.scan.checkDue = 0)
      ∧ Leaves .scanStart (due 0 .valid) (fun t => t.scan.checkDue = 1)
      ∧ Leaves (.conversionEnd 100) (converting .vs .scanList .qualifying [] []) (fun t => t.scan.meas = .valid)
      ∧ Leaves (.conversionEnd 100) (converting .pa (.spot 1) .valid [] [spotOf 1 .pa]) (fun t => t.scan.spots = [])
      ∧ Leaves (.conversionEnd 100) (converting .pa (.spot 1) .valid [] [spotOf 2 .pa]) (fun t => (t.scan.spots.map Spot.made) = [1]) := by
  refine ⟨?_, ?_, ?_, ?_, ?_⟩ <;> exact ⟨_, rfl, by decide +kernel⟩

theorem witness_CheckReferencesAreJudgedByTheirCodes :
    (converting .cr1 .scanList .valid [.cr2, .pa] []).scan.conv = some ⟨.cr1, .scanList⟩
      ∧ (converting .cr1 .scanList .valid [.cr2, .pa] []).scan.list = .cr2 :: [.pa]
      ∧ (converting .cr2 .scanList .fault [.pa] []).scan.conv = some ⟨.cr2, .scanList⟩
      ∧ (converting .cr2 .scanList .fault [.pa] []).scan.spots = [] ∧ (converting .cr2 .scanList .fault [.pa] []).scan.cr1Passed = true
      ∧ (converting .cr1 (.spot 1) .valid [] [spotOf 2 .cr1]).scan.conv = some ⟨.cr1, .spot 1⟩
      ∧ (converting .cr1 .scanList .valid [.cr2, .pa] []).inService = true := by decide +kernel

theorem test_check_references_at_their_bounds :
    Leaves (.conversionEnd 802) (converting .cr1 .scanList .valid [.cr2, .pa] []) (fun t => t.scan.meas = .fault)
      ∧ Leaves (.conversionEnd 803) (converting .cr1 .scanList .valid [.cr2, .pa] []) (fun t => t.scan.meas = .valid)
      ∧ Leaves (.conversionEnd 835) (converting .cr1 .scanList .valid [.cr2, .pa] []) (fun t => t.scan.meas = .valid)
      ∧ Leaves (.conversionEnd 836) (converting .cr1 .scanList .valid [.cr2, .pa] []) (fun t => t.sup.state = .trip)
      ∧ Leaves (.conversionEnd 3342) (converting .cr2 .scanList .fault [.pa] []) (fun t => t.scan.meas = .qualifying)
      ∧ Leaves (.conversionEnd 3343) (converting .cr2 .scanList .valid [.pa] []) (fun t => t.scan.meas = .fault)
      ∧ Leaves (.conversionEnd 802) (converting .cr1 .scanList .valid [.cr2, .pa] []) (fun t => t.scan.cr1Passed = false) := by
  refine ⟨?_, ?_, ?_, ?_, ?_, ?_, ?_⟩ <;> exact ⟨_, rfl, by decide +kernel⟩

/-! ### Witnesses: the rack brake's timers -/

/-- A PA reading about to be taken in a rack brake state, PB having counted in every test. -/
def reads (st : BrakeState) : State :=
  let s := converting .pa .scanList .valid [.pb] []
  { s with rbc := { s.rbc with
    state := st, countedB := some (if st = .releasing then 4000 else 0), applyWindow := some 4000, releaseTimer := some 4000 } }

/-- A PA reading about to be taken in a brake test. -/
def testReads (st : TestStep) (t : Time) : State :=
  let s := converting .pa .scanList .valid [.pb] []
  { s with rbc := { s.rbc with state := .testing, test := some ⟨st, t, 0, none, none, none, none⟩, testClaim := 100 } }

/-- RELEASING since a time. -/
def releasing (t : Time) : State := { served with rbc := { served.rbc with
  state := .releasing, word := .release, releaseTimer := some t, setpointA := 1000, setpointB := 1000 } }

/-- APPLYING in a plan of two stages 500 ms apart, since a time. -/
def applying (reached : Nat) (start : Time) (window : Option Time) : State := { served with rbc := { served.rbc with
  state := .applying, plan := ⟨2, 500, reached, start⟩, applyWindow := window, setpointA := 500, setpointB := 500 } }

/-- RELEASED with pinion A's pressure low since a time. -/
def leaking (t : Time) : State := { served with rbc := { served.rbc with
  state := .released, word := .release, lossA := some t, setpointA := 1000, setpointB := 1000 } }

theorem witness_ReadingsMoveTheBrakeAndTheWindows :
    (converting .pa .scanList .qualifying [] []).scan.conv = some ⟨.pa, .scanList⟩
      ∧ (converting .pa .scanList .qualifying [] []).scan.meas = .qualifying
      ∧ (converting .pb .scanList .valid [] []).scan.conv = some ⟨.pb, .scanList⟩
      ∧ (converting .ps .scanList .valid [] []).scan.conv = some ⟨.ps, .scanList⟩
      ∧ (converting .inc .scanList .valid [] []).scan.conv = some ⟨.inc, .scanList⟩
      ∧ (converting .vs .scanList .valid [] []).scan.conv = some ⟨.vs, .scanList⟩
      ∧ (reads .releasing).rbc.state = .releasing ∧ (reads .applyFault).rbc.state = .applyFault
      ∧ (reads .applying).rbc.applyWindow.isSome = true ∧ (reads .applied).rbc.state = .applied
      ∧ (testReads .aRelease 0).rbc.test = some ⟨.aRelease, 0, 0, none, none, none, none⟩
      ∧ (testReads .aRelease 0).path.map = some map ∧ (reads .released).inService = true := by decide +kernel

theorem test_readings_move_the_brake :
    Leaves (.conversionEnd 4095) (reads .releasing) (fun t => t.rbc.state = .released)
      ∧ Leaves (.conversionEnd 0) (reads .releasing) (fun t => t.rbc.state = .releasing)
      ∧ Leaves (.conversionEnd 0) (reads .applying) (fun t => t.rbc.state = .applied)
      ∧ Leaves (.conversionEnd 4095) (reads .applying) (fun t => t.rbc.state = .applying)
      ∧ Leaves (.conversionEnd 0) (reads .applyFault) (fun t => t.rbc.state = .applied)
      ∧ Leaves (.conversionEnd 0) (reads .released) (fun t => t.rbc.lossA = some 5000)
      ∧ Leaves (.conversionEnd 4095) (reads .released) (fun t => t.rbc.lossA = none)
      ∧ Leaves (.conversionEnd 4095) (testReads .aRelease 0) (fun t => (t.rbc.test.map BrakeTest.step) = some .aHold)
      ∧ Leaves (.conversionEnd 0) (testReads .aHold 0) (fun t => t.rbc.state = .applying)
      ∧ Leaves (.conversionEnd 0) (testReads .bApply 0) (fun t => t.rbc.state = .testing) := by
  refine ⟨?_, ?_, ?_, ?_, ?_, ?_, ?_, ?_, ?_, ?_⟩ <;> exact ⟨_, rfl, by decide +kernel⟩

theorem witness_BrakeTimersActAtTheirTime :
    (releasing 2000).rbc.state = .releasing ∧ (releasing 2000).rbc.releaseTimer = some 2000
      ∧ 3000 ≤ elapsed (releasing 2000).now 2000 ∧ elapsed (releasing 2001).now 2001 < 3000
      ∧ (applying 1 4500 none).rbc.state = .applying ∧ 0 < (applying 1 4500 none).rbc.plan.reached
      ∧ (applying 1 4500 none).rbc.plan.reached < (applying 1 4500 none).rbc.plan.count
      ∧ 500 * 1 ≤ elapsed (applying 1 4500 none).now 4500 ∧ elapsed (applying 1 4501 none).now 4501 < 500 * 1
      ∧ (applying 2 0 (some 3000)).rbc.applyWindow = some 3000 ∧ 2000 ≤ elapsed (applying 2 0 (some 3000)).now 3000
      ∧ elapsed (applying 2 0 (some 3001)).now 3001 < 2000
      ∧ (leaking 4500).rbc.state = .released ∧ (leaking 4500).rbc.loss .a = some 4500
      ∧ 500 ≤ elapsed (leaking 4500).now 4500 ∧ elapsed (leaking 4501).now 4501 < 500 ∧ (leaking 4500).inService = true := by
  decide

theorem test_brake_timers :
    Leaves .releaseTimeout (releasing 2000) (fun t => t.rbc.state = .applying)
      ∧ Leaves .releaseTimeout (releasing 2001) (fun t => t.rbc.state = .releasing)
      ∧ Leaves .stageReached (applying 1 4500 none) (fun t => t.rbc.applyWindow = some 5000)
      ∧ Leaves .applyWindowExpiry (applying 2 0 (some 3000)) (fun t => t.sup.state = .trip)
      ∧ Leaves .applyWindowExpiry (applying 2 0 (some 3001)) (fun t => t.rbc.state = .applying)
      ∧ Leaves (.pressureLoss .a) (leaking 4500) (fun t => t.rbc.state = .applying)
      ∧ Leaves (.pressureLoss .a) (leaking 4501) (fun t => t.rbc.state = .released) := by
  refine ⟨?_, ?_, ?_, ?_, ?_, ?_, ?_⟩ <;> exact ⟨_, rfl, by decide +kernel⟩

/-- A brake test at a step since a time. -/
def testing (st : TestStep) (t : Time) : State := { served with rbc := { served.rbc with
  state := .testing, test := some ⟨st, t, 0, none, none, none, none⟩, testClaim := 100, serviceOutput := 100, setpointA := 1000 } }

theorem witness_BrakeTimersActAtTheirTime_tests :
    served.rbc.test = none ∧ (testing .aHold 0).path.map = some map
      ∧ (testing .aHold 0).rbc.test = some ⟨.aHold, 0, 0, none, none, none, none⟩
      ∧ TestStep.aHold.limit ≤ elapsed (testing .aHold 0).now 0 ∧ elapsed (testing .aHold 5000).now 5000 < TestStep.aHold.limit
      ∧ TestStep.aRelease.limit ≤ elapsed (testing .aRelease 0).now 0
      ∧ (after .testStepExpiry (testing .aHold 0)).sup.state ≠ .trip := by decide

theorem test_test_steps :
    Leaves .testStepExpiry (testing .aHold 0) (fun t => (t.rbc.test.map BrakeTest.step) = some .aApply)
      ∧ Leaves .testStepExpiry (testing .aRelease 0) (fun t => t.rbc.test = none)
      ∧ Leaves .testStepExpiry (testing .aRelease 0) (fun t => t.rbc.state = .applying) := by
  refine ⟨?_, ?_, ?_⟩ <;> exact ⟨_, rfl, by decide +kernel⟩

/-! ### Witnesses: entrances -/

/-- A frame for car 7. -/
def valleyFrame (kind seq : Nat) (body : List Half) : List Half :=
  sealFrame ([headUnit kind (body.length + 3), BitVec.ofNat 16 (7 * 256 + seq)] ++ body)

theorem hearing : Hearing configured := ⟨rfl, rfl, Or.inr ⟨Or.inl rfl, rfl, rfl, by decide⟩⟩

/-- A reception under way in buffer 1, begun by a LINK_CONFLICT. -/
def receiving : State := { configured with vlu := { configured.vlu with
  link := .receiving, lselm := true, stage0 := .copying [] 0, stage1 := .receiving } }

theorem hearing_in_a_reception : Hearing receiving ∧ takenBuffer receiving = true ∧ takenBuffer configured = false :=
  ⟨⟨rfl, rfl, Or.inl ⟨Or.inl rfl, rfl⟩⟩, rfl, rfl⟩

/-- A permit for both sides at the car's position, with an OPEN held at entrance 1. -/
def permitted (d : Time) : State := { standing 1500 with
  vlu := { configured.vlu with permit := some ⟨.both, 1000, 2000, d⟩ }
  ent := { configured.ent with recs := { configured.ent.recs with x0 := { leaf .closedLocked true with held := true } } } }

theorem witness_ReleaseIsJudgedAtItsEvents :
    (exec .standstill (silent 1500) = .next (after .standstill (silent 1500))) ∧ (silent 1500).inService = true
      ∧ (after .standstill (silent 1500)).inService = true
      ∧ (after .standstill (silent 1500)).releaseInputs ≠ (silent 1500).releaseInputs
      ∧ (silent 1500).motion.standstill = false ∧ 1500 ≤ elapsed (silent 1500).now (silent 1500).motion.standstillTimer
      ∧ (permitted 5000).inService = true ∧ (permitted 5000).vlu.permit = some ⟨.both, 1000, 2000, 5000⟩
      ∧ reached (permitted 5000).now 5000 = true ∧ Hearing configured
      ∧ Passed configured (valleyFrame 6 2 [3, 0, 0x1000, 0, 0x2000, 0x60]) .entrancePermit (.permit (some .both) 1000 2000 60)
      ∧ (after (.entrancePermit (valleyFrame 6 2 [3, 0, 0x1000, 0, 0x2000, 0x60])) configured).vlu.permit
          ≠ configured.vlu.permit
      ∧ (after (.conversionEnd 0) (reads .applying)).rbc.state ≠ (reads .applying).rbc.state :=
  ⟨rfl, rfl, by decide, by decide, rfl, by decide, rfl, rfl, by decide, hearing, by unfold Passed; decide +kernel,
    by decide +kernel, by decide +kernel⟩

theorem test_release_starts_a_held_request :
    ((after .standstill { permitted 9000 with motion := { (permitted 9000).motion with standstill := false } }).entrance 0).state
        = .unlocking
      ∧ (after .standstill { permitted 9000 with motion := { (permitted 9000).motion with standstill := false } }).ent.releaseRight
          = true
      ∧ ((after .standstill { permitted 9000 with
          motion := { (permitted 9000).motion with standstill := false, position := 999 } }).entrance 0).state = .closedLocked
      ∧ (after .permitExpiry (permitted 5000)).ent.releaseLeft = false := by decide +kernel

theorem witness_EntranceSensorsMoveTheEntrance :
    State.reset.run.runState = .loading ∧ faulted.run.runState = .configFault ∧ served.inService = true
      ∧ (served.entrance 3).closedLocked = true ∧ (served.entrance 3).state.secured = true
      ∧ moving.motion.standstill = false ∧ stabled.run.runState = .stabled
      ∧ ((withEntrance 3 (leaf .closing false)).entrance 3).held = false
      ∧ ((withEntrance 3 (leaf .closing false)).entrance 3).closedLocked = false
      ∧ ((withEntrance 3 (leaf .closing false)).entrance 3).state = .closing
      ∧ ((withEntrance 0 (leaf .unlocking true)).entrance 0).state = .unlocking
      ∧ ((withEntrance 0 (leaf .unlocking true)).entrance 0).openEnd = false
      ∧ ((withEntrance 0 (leaf .opening false)).entrance 0).state = .opening
      ∧ (leaf .closing false).attempts ≤ Cfg.reopenAttempts served.cfg ∧ (leaf .closing false).obstruction = false
      ∧ (leaf .locking true).closedLocked = true ∧ (leaf .ajar false).closedLocked = false
      ∧ (testing .aHold 0).rbc.state = .testing ∧ (testing .aHold 0).path.map = some map
      ∧ ((testing .aHold 0).entrance 3).state.secured = true ∧ ((testing .aHold 0).entrance 3).closedLocked = true
      ∧ ({ leaf .unlocking true with openEnd := true } : EntranceRec).openEnd = true
      ∧ (leaf .opened true).closedLocked = true ∧ (leaf .isolated false).closedLocked = false := by decide

theorem test_entrance_sensors :
    Leaves (.closedLockedInput 3 true) (withEntrance 3 (leaf .closing false)) (fun t => (t.entrance 3).state = .locking)
      ∧ Leaves (.closedLockedInput 0 false) (withEntrance 0 (leaf .unlocking true)) (fun t => (t.entrance 0).state = .opening)
      ∧ Leaves (.openEndInput 0 true) (withEntrance 0 (leaf .opening false)) (fun t => (t.entrance 0).state = .opened)
      ∧ Leaves (.obstructionInput 0 true) (withEntrance 0 (leaf .closing false)) (fun t => (t.entrance 0).state = .obstructed)
      ∧ Leaves (.closedLockedInput 3 false) served (fun t => t.sup.state ≠ .trip)
      ∧ Leaves (.closedLockedInput 3 false) stabled (fun t => t.sup.state = .trip)
      ∧ Leaves (.closedLockedInput 3 false) (testing .aHold 0) (fun t => t.rbc.state = .applying)
      ∧ Leaves (.closedLockedInput 0 false) (withEntrance 0 { leaf .unlocking true with openEnd := true }) (fun t => (t.entrance 0).state = .opened)
      ∧ Leaves (.closedLockedInput 3 false) moving (fun t => t.sup.state = .trip) := by
  refine ⟨?_, ?_, ?_, ?_, ?_, ?_, ?_, ?_, ?_⟩ <;> exact ⟨_, rfl, by decide +kernel⟩

/-- An entrance with its timers, under the block that passes. -/
def timed (r : EntranceRec) : State := configured.setEntrance 1 r

theorem witness_EntranceTimersEndTheMotion :
    (timed { leaf .locking true with settle := some 4950 }).inService = true
      ∧ ((timed { leaf .locking true with settle := some 4950 }).entrance 1).settle = some 4950
      ∧ 50 ≤ elapsed (timed { leaf .locking true with settle := some 4950 }).now 4950
      ∧ elapsed (timed { leaf .locking true with settle := some 4951 }).now 4951 < 50
      ∧ ((timed { leaf .closing false with motionTimer := some 0 }).entrance 1).motionTimer = some 0
      ∧ EntranceState.closing.motionTime configured.cfg = some (Cfg.closingTime configured.cfg)
      ∧ Cfg.closingTime configured.cfg ≤ elapsed configured.now 0
      ∧ ((timed { leaf .closedLocked true with held := true }).entrance 1).held = true
      ∧ 1000 * Cfg.heldTime served.cfg ≤ elapsed served.now 0
      ∧ elapsed configured.now 0 < 1000 * Cfg.heldTime configured.cfg := by decide +kernel

theorem test_entrance_timers :
    Leaves (.settleExpiry 1) (timed { leaf .locking true with settle := some 4950 }) (fun t => (t.entrance 1).state = .closedLocked)
      ∧ Leaves (.settleExpiry 1) (timed { leaf .locking true with settle := some 4951 }) (fun t => (t.entrance 1).state = .locking)
      ∧ Leaves (.entranceMotionTimeout 1) (timed { leaf .closing false with motionTimer := some 0 }) (fun t => (t.entrance 1).state = .ajar)
      ∧ Leaves (.entranceHeldExpired 1) (timed { leaf .closedLocked true with held := true }) (fun t => (t.entrance 1).held = true)
      ∧ Leaves (.entranceHeldExpired 1) (served.setEntrance 1 { leaf .closedLocked true with held := true }) (fun t => (t.entrance 1).held = false) := by
  refine ⟨?_, ?_, ?_, ?_, ?_⟩ <;> exact ⟨_, rfl, by decide +kernel⟩

/-! ### Witnesses: the valley link -/

/-- The part after the frame of sequence 1, a stop order. -/
def heard : State := { configured with vlu := { configured.vlu with lastAccepted := some ⟨1, .stopOrder, some .done⟩ } }

theorem witness_FramesThatFailAreReported :
    Hearing configured ∧ Hearing heard
      ∧ judgeFrame (Cfg.carNumber configured.cfg) none [0x0704, 0x0701, 0, 0xF1FC] false = .rejected .rejectedCheck
      ∧ 2 ≤ [(0x0704 : Half), 0x0701, 0, 0xF1FC].length
      ∧ judgeFrame (Cfg.carNumber configured.cfg) none (sealFrame [0x0704, 0x0801, 0]) false = .foreign
      ∧ judgeFrame (Cfg.carNumber heard.cfg) heard.vlu.lastAccepted (valleyFrame 4 1 [0]) false = .repeated
      ∧ safetyKind .stopOrder = true ∧ heard.vlu.receipts.length < 4 :=
  ⟨hearing, ⟨rfl, rfl, Or.inr ⟨Or.inl rfl, rfl, rfl, by decide⟩⟩, by decide +kernel⟩

theorem witness_FramesThatFailAreReported_checks :
    LengthAllowed .stopOrder 4 ∧ ¬LengthAllowed .stopOrder 5 ∧ LengthAllowed .authority 11 ∧ ¬LengthAllowed .authority 9
      ∧ ContentAllowed .stopOrder (valleyFrame 4 2 [0]) ∧ ¬ContentAllowed .stopOrder (valleyFrame 4 2 [1])
      ∧ unitSum (valleyFrame 4 2 [0]) % 65536 = 0 ∧ (unitAt (valleyFrame 4 2 [0]) 0).toNat = 0x0404
      ∧ (unitAt (valleyFrame 4 2 [0]) 1).toNat / 256 = Cfg.carNumber configured.cfg := by
  refine ⟨rfl, (fun h => by cases h), Or.inr rfl, (fun h => by rcases h with h | h <;> cases h), ⟨fun _ i h2 hl d hd => ?_, by decide⟩,
    fun h => absurd h.2 (by decide), by decide, by decide, by decide +kernel⟩
  have : i = 2 := by simp [valleyFrame, sealFrame] at hl; omega
  subst this
  match d, hd with
  | 0, _ => decide
  | 1, _ => decide
  | 2, _ => decide
  | 3, _ => decide

theorem test_the_five_checks_in_their_order :
    judgeFrame 7 none (valleyFrame 9 2 [0]) false = .rejected .rejectedForm
      ∧ judgeFrame 7 none (valleyFrame 4 2 [0, 0]) false = .rejected .rejectedForm
      ∧ judgeFrame 7 none (valleyFrame 1 2 [1, 0, 0x290A, 0, 0x60]) false = .rejected .malformed
      ∧ judgeFrame 7 none (valleyFrame 1 2 [3, 0, 0x2900, 0, 0x60]) false = .rejected .malformed
      ∧ judgeFrame 7 none (valleyFrame 1 2 [1, 0x20, 0, 0, 0x60]) false = .rejected .malformed
      ∧ judgeFrame 7 none (valleyFrame 6 2 [4, 0, 0x100, 0, 0x200, 0x60]) false = .rejected .malformed
      ∧ judgeFrame 7 none (valleyFrame 6 2 [3, 0, 0x201, 0, 0x200, 0x60]) false = .rejected .malformed
      ∧ judgeFrame 7 (some ⟨2, .stopOrder, none⟩) (valleyFrame 4 2 [1]) false = .repeated
      ∧ judgeFrame 7 none (sealFrame [0x0404, 0x0802, 1]) false = .foreign
      ∧ judgeFrame 7 none (sealFrame [0x0704, 0x0002, 0]) false = .accepted .heartbeat .heartbeat := by decide +kernel

theorem test_frames_that_fail :
    Leaves (.frameRejected [0x0704, 0x0701, 0, 0xF1FC] false) configured (fun t => t.path.handed.length = 1)
      ∧ Leaves (.frameRejected (sealFrame [0x0704, 0x0801, 0]) false) configured (fun t => t.path.handed.length = 0)
      ∧ Leaves (.repeatFrame (valleyFrame 4 1 [0])) heard (fun t => t.vlu.receipts = [⟨.stopOrder, 1, .done⟩]) := by
  refine ⟨?_, ?_, ?_⟩ <;> exact ⟨_, rfl, by decide +kernel⟩

/-- The valley records at their deadlines, at 5 000 ms or one before. -/
def deadlined (d : Time) : State := { configured with
  vlu := { configured.vlu with
    authority := some ⟨false, .up, 2900, .none, d, none⟩, permit := some ⟨.left, 0, 10, d⟩, radio := .up, linkLoss := some d } }

/-- The restriction list, the receipts and the INBOUND ring full. -/
def crammed : State := { configured with vlu := { configured.vlu with
  restrictions := (List.range 8).map fun i => ⟨i + 1, 100, 200, 50, .both⟩
  receipts := List.replicate 4 ⟨.stopOrder, 1, .done⟩
  inboundProducer := 15 } }

theorem witness_AcceptedFramesSetTheirRecord :
    Hearing configured
      ∧ judgeFrame 7 none (valleyFrame 1 2 [1, 0, 0x2900, 0, 0x60]) false = .accepted .authority (.authority .up 2900 .none 60 none)
      ∧ judgeFrame 7 none (valleyFrame 2 2 [9, 0, 0x100, 0, 0x200, 0x50, 3]) false
          = .accepted .restrictionSet (.restrictionSet ⟨9, 100, 200, 50, .both⟩)
      ∧ judgeFrame 7 none (valleyFrame 3 2 [9]) false = .accepted .restrictionLift (.restrictionLift 9)
      ∧ judgeFrame 7 none (valleyFrame 4 2 [0]) false = .accepted .stopOrder .stopOrder
      ∧ judgeFrame 7 none (valleyFrame 5 2 [0]) false = .accepted .stopRelease .stopRelease
      ∧ judgeFrame 7 none (valleyFrame 6 2 [3, 0, 0x100, 0, 0x200, 0x60]) false
          = .accepted .entrancePermit (.permit (some .both) 100 200 60)
      ∧ judgeFrame 7 none (valleyFrame 7 2 [0]) false = .accepted .heartbeat .heartbeat
      ∧ judgeFrame 7 none (valleyFrame 8 2 [0x4142]) false = .accepted .text .text
      ∧ Cfg.carNumber configured.cfg = 7 ∧ configured.inboundFull = false ∧ configured.vlu.lastAccepted = none
      ∧ configured.vlu.receipts.length < 4 ∧ configured.path.map = some map ∧ configured.vlu.restrictions.length < 8
      ∧ receiptDue configured .stopOrder = some .done ∧ receiptDue configured (.restrictionLift 9) = some .notHeld
      ∧ receiptDue configured .heartbeat = none ∧ Hearing crammed ∧ crammed.inboundFull = true ∧ 4 ≤ crammed.vlu.receipts.length
      ∧ 8 ≤ crammed.vlu.restrictions.length ∧ holdsIdent crammed.vlu.restrictions 9 = false
      ∧ receiptDue crammed (.restrictionSet ⟨9, 100, 200, 50, .both⟩) = some .listFull
      ∧ judgeFrame 7 none (valleyFrame 1 2 [1, 0, 0x2900, 0, 0x60, 0, 0x1500, 1]) false
          = .accepted .authority (.authority .up 2900 .none 60 (some (1500, .main)))
      ∧ configured.motion.posState = .unknown ∧ configured.prof.recordOf 0 = none ∧ configured.prof.allPinned 0 = false :=
  ⟨hearing, by decide +kernel, by decide +kernel, by decide +kernel, by decide +kernel, by decide +kernel, by decide +kernel,
    by decide +kernel, by decide +kernel, rfl, rfl, rfl, by decide, rfl, by decide, rfl, rfl, rfl,
    ⟨rfl, rfl, Or.inr ⟨Or.inl rfl, rfl, rfl, by decide⟩⟩, by decide, by decide, by decide, by decide, by decide,
    by decide +kernel, rfl, rfl, by decide⟩

theorem test_accepted_frames :
    Leaves (.authority (valleyFrame 1 2 [1, 0, 0x2900, 0, 0x60])) configured (fun t => (t.vlu.authority.map Authority.limit) = some 2900)
      ∧ Leaves (.restrictionSet (valleyFrame 2 2 [9, 0, 0x100, 0, 0x200, 0x50, 3])) configured (fun t => t.vlu.restrictions = [⟨9, 100, 200, 50, .both⟩])
      ∧ Leaves (.stopOrder (valleyFrame 4 2 [0])) configured (fun t => t.sup.state = .trip)
      ∧ Leaves (.heartbeat (valleyFrame 7 2 [0])) configured (fun t => t.vlu.radio = .up)
      ∧ Leaves (.heartbeat (valleyFrame 7 2 [0])) receiving (fun t => t.vlu.link = .idle)
      ∧ Leaves (.heartbeat (valleyFrame 7 2 [0])) receiving (fun t => t.vlu.stage1 = .empty)
      ∧ Leaves (.authority (valleyFrame 1 2 [1, 0, 0x2900, 0, 0x60, 0, 0x1500, 1])) configured (fun t => t.prof.walk = some ⟨1500, .main, 0, 0⟩)
      ∧ Leaves (.restrictionSet (valleyFrame 2 2 [9, 0, 0x100, 0, 0x200, 0x50, 3])) crammed (fun t => t.vlu.overfull = true)
      ∧ Leaves (.restrictionSet (valleyFrame 2 2 [9, 0, 0x100, 0, 0x200, 0x50, 3])) crammed (fun t => t.path.handed.length = 3) := by
  refine ⟨?_, ?_, ?_, ?_, ?_, ?_, ?_, ?_, ?_⟩ <;> exact ⟨_, rfl, by decide +kernel⟩

theorem witness_AuthorityMovesByAnAuthorityFrame :
    (∃ t a, step (deadlined 9000) = .next t ∧ t.vlu.authority = some a)
      ∧ ∃ t a, step (configured.withPending [.authority (valleyFrame 1 2 [1, 0, 0x2900, 0, 0x60])]) = .next t
          ∧ t.vlu.authority = some a :=
  ⟨⟨_, ⟨false, .up, 2900, .none, 9000, none⟩, rfl, rfl⟩,
    ⟨after (.authority (valleyFrame 1 2 [1, 0, 0x2900, 0, 0x60])) configured, ⟨false, .up, 2900, .none, 65000, none⟩, rfl,
      by decide +kernel⟩⟩

/-- The link in a state. -/
def linked (l : LinkState) (conflicts : Nat) (fault : Bool) : State := { configured with
  vlu := { configured.vlu with link := l, conflicts := conflicts, fault := fault, resetTime := 4900 } }

/-- LSELM asserted since a time. -/
def stuck (t : Time) : State := { configured with
  vlu := { configured.vlu with link := .receiving, lselm := true, lselmTime := t, stage0 := .receiving } }

/-- A frame that awaits its retry, LSELM asserted or not. -/
def awaiting (lselm : Bool) (n : Nat) : State := { linked .idle n false with
  vlu := { (linked .idle n false).vlu with lselm := lselm, sending := some ⟨[1, 2, 3, 4], .alarm, true⟩ } }

/-- A fault whose LSELM began in an overrun, a staging buffer taken. -/
def outlasting : State := { linked .idle 0 true with
  vlu := { (linked .idle 0 true).vlu with overrunning := true, lselm := true, stage0 := .copying [] 0 } }

theorem witness_LinkEventsMoveTheTransferState :
    configured.run.runState = .run ∧ configured.vlu.link = .idle ∧ configured.vlu.fault = false
      ∧ configured.vlu.receivingBuffer = none
      ∧ ({ configured with vlu := { configured.vlu with suspended := true } } : State).lrdy = false
      ∧ (linked .sending 6 false).vlu.conflicts < 7 ∧ 7 ≤ (linked .sending 7 false).vlu.conflicts
      ∧ 100 ≤ elapsed (linked .resetWait 0 false).now (linked .resetWait 0 false).vlu.resetTime
      ∧ (linked .idle 0 true).vlu.fault = true ∧ (awaiting false 0).vlu.lselm = false ∧ (awaiting false 0).vlu.link = .idle
      ∧ (awaiting false 0).vlu.sending.isSome = true ∧ (awaiting true 0).vlu.lselm = true ∧ configured.lrdy = true
      ∧ configured.vlu.lselm = false ∧ configured.vlu.sending = none ∧ configured.vlu.receipts = []
      ∧ configured.vlu.alarmPending = false ∧ configured.vlu.transmit = none
      ∧ (stuck 4499).vlu.link = .receiving ∧ (stuck 4499).vlu.fault = false ∧ (stuck 4499).vlu.lselm = true
      ∧ 500 < elapsed (stuck 4499).now (stuck 4499).vlu.lselmTime ∧ elapsed (stuck 4500).now (stuck 4500).vlu.lselmTime ≤ 500
      ∧ (stuck 4499).prof.front = none ∧ configured.vlu.overrunning = false ∧ outlasting.vlu.overrunning = true
      ∧ outlasting.vlu.fault = true
      ∧ ({ configured with vlu := { configured.vlu with suspended := true } } : State).vlu.lselm = false := by decide +kernel

theorem shadow_current : ShadowCurrent (stuck 4499) ∧ ShadowCurrent (deadlined 5000) :=
  ⟨(fun _ _ h => by cases h), (fun _ _ h => by cases h)⟩

theorem test_link_events :
    Leaves .linkConflict (linked .sending 6 false) (fun t => t.vlu.conflicts = 7)
      ∧ Leaves .linkConflict (linked .sending 7 false) (fun t => t.vlu.link = .resetWait)
      ∧ Leaves .resetWaitEnd (linked .resetWait 0 false) (fun t => t.vlu.link = .idle)
      ∧ Leaves .linkFault (stuck 4499) (fun t => t.vlu.radio = .lost)
      ∧ Leaves .linkFault (stuck 4500) (fun t => t.vlu.fault = false)
      ∧ Leaves .linkConflict configured (fun t => t.vlu.link = .receiving)
      ∧ Leaves .linkConflict (awaiting false 6) (fun t => t.vlu.conflicts = 7)
      ∧ Leaves .linkConflict (awaiting true 6) (fun t => t.vlu.conflicts = 6)
      ∧ Leaves .linkFaultCleared (linked .idle 0 true) (fun t => t.vlu.fault = false)
      ∧ Leaves .linkOverrun { configured with vlu := { configured.vlu with suspended := true } } (fun t => t.path.handed.length = 1)
      ∧ Leaves .linkFaultCleared outlasting (fun t => t.path.handed = [.notice ⟨0x0B03, 11, .warn, 5000, 0, 0⟩])
      ∧ Leaves .linkFaultCleared outlasting (fun t => t.vlu.suspended = true) := by
  refine ⟨?_, ?_, ?_, ?_, ?_, ?_, ?_, ?_, ?_, ?_, ?_, ?_⟩ <;> exact ⟨_, rfl, by decide +kernel⟩

/-- A frame under way. -/
def sendingFrame (src : SendSource) : State := { linked .sending 0 false with
  vlu := { (linked .sending 0 false).vlu with
    sending := some ⟨[1, 2, 3, 4], src, true⟩
    receipts := [⟨.stopOrder, 1, .done⟩]
    transmit := some ⟨0, [1, 2, 3, 4]⟩ } }

/-- Sixteen words of an OUTBOUND slot read, the first of them given. -/
def slotRead (w : Word) : State := { configured with
  vlu := { configured.vlu with reading := some ⟨0, w :: List.replicate 15 0⟩ } }

/-- A frame in the transmit buffer, under a radio state. -/
def holdingFrame (u : Half) (radio : RadioState) : State := { configured with vlu := { configured.vlu with
  transmit := some ⟨0, [u, 0, 0, 0, 0, 0, 0, 0]⟩, radio := radio } }

theorem witness_FramesAreSentInTheirOrder :
    configured.run.runState = .run ∧ configured.vlu.link = .idle ∧ configured.vlu.fault = false
      ∧ configured.vlu.lselm = false ∧ configured.vlu.sending = none
      ∧ ({ configured with vlu := { configured.vlu with receipts := [⟨.stopOrder, 1, .done⟩] } } : State).vlu.receipts ≠ []
      ∧ ({ configured with vlu := { configured.vlu with alarmPending := true } } : State).vlu.alarmPending = true
      ∧ configured.vlu.transmit = none ∧ (sendingFrame .outbound).vlu.link = .sending
      ∧ (sendingFrame .outbound).vlu.sending = some ⟨[1, 2, 3, 4], .outbound, true⟩ ∧ (sendingFrame .outbound).path.map = some map
      ∧ (slotRead 0x4105).vlu.reading = some ⟨0, 0x4105 :: List.replicate 15 0⟩
      ∧ (0x4105 :: List.replicate 15 (0 : Word)).length = 16
      ∧ (holdingFrame 0x4108 .up).vlu.transmit = some ⟨0, [0x4108, 0, 0, 0, 0, 0, 0, 0]⟩ ∧ (holdingFrame 0x4108 .up).vlu.radio ≠ .shadowed
      ∧ frameKind [0x4108, 0, 0, 0, 0, 0, 0, 0] ≠ 0x43 ∧ (holdingFrame 0x4108 .shadowed).vlu.radio = .shadowed
      ∧ (awaiting true 0).vlu.lselm = true ∧ (awaiting true 0).vlu.sending.isSome = true
      ∧ (sendingFrame .detached).vlu.sending = some ⟨[1, 2, 3, 4], .detached, true⟩ := by decide +kernel

theorem test_sending :
    Leaves .sendAttempt { configured with vlu := { configured.vlu with alarmPending := true } } (fun t => (t.vlu.sending.map (fun f => f.units.length)) = some 9)
      ∧ Leaves .sendAttempt { configured with vlu := { configured.vlu with receipts := [⟨.stopOrder, 1, .done⟩] } } (fun t => (t.vlu.sending.map (fun f => f.units.length)) = some 6)
      ∧ Leaves .frameSent (sendingFrame .receipt) (fun t => t.vlu.receipts = [])
      ∧ Leaves .frameSent (sendingFrame .outbound) (fun t => t.vlu.outboundConsumer = 1)
      ∧ Leaves .outboundSlotRead (slotRead 0x0005) (fun t => t.vlu.outboundConsumer = 1)
      ∧ Leaves .sendAttempt (holdingFrame 0x4108 .up) (fun t => (t.vlu.sending.map (fun f => (f.units.length, unitSum f.units % 65536))) = some (8, 0))
      ∧ Leaves .sendAttempt (holdingFrame 0x4108 .shadowed) (fun t => t.vlu.sending = none)
      ∧ Leaves .sendAttempt (awaiting true 3) (fun t => t.vlu.conflicts = 3) := by
  refine ⟨?_, ?_, ?_, ?_, ?_, ?_, ?_, ?_⟩ <;> exact ⟨_, rfl, by decide +kernel⟩

/-- SHADOWED with the allowance ending. -/
def shadowed (d : Time) : State := { configured with
  vlu := { configured.vlu with radio := .shadowed, inShadow := true, shadow := .active d 1 } }

theorem witness_DeadlinesEndTheValleyRecords :
    configured.inService = true ∧ configured.vlu.authority = none ∧ configured.vlu.permit = none ∧ configured.vlu.linkLoss = none
      ∧ configured.vlu.radio ≠ .shadowed ∧ (deadlined 5000).vlu.authority = some ⟨false, .up, 2900, .none, 5000, none⟩
      ∧ (deadlined 5000).vlu.permit = some ⟨.left, 0, 10, 5000⟩ ∧ (deadlined 5000).vlu.linkLoss = some 5000
      ∧ (deadlined 5000).vlu.radio = .up ∧ reached configured.now 5000 = true ∧ reached configured.now 5001 = false
      ∧ (shadowed 5000).vlu.shadow = .active 5000 1 ∧ (shadowed 5000).vlu.radio = .shadowed := by decide +kernel

theorem test_deadlines :
    ((after .authorityExpiry (deadlined 5000)).vlu.authority.map Authority.expired) = some true
      ∧ ((after .authorityExpiry (deadlined 5001)).vlu.authority.map Authority.expired) = some false
      ∧ (after .permitExpiry (deadlined 5000)).vlu.permit = none
      ∧ (after .linkLossExpiry (deadlined 5000)).vlu.radio = .lost
      ∧ (after .shadowExpiry (shadowed 5000)).vlu.radio = .lost
      ∧ (after .shadowExpiry (shadowed 5001)).vlu.radio = .shadowed := by decide +kernel

/-! ### Witnesses: trips -/

theorem witness_TripIsLatched :
    tripped.sup.state = .trip ∧ step tripped = .next tripped.tick ∧ tripped.pending.head? ≠ some .powerOnReset
      ∧ ((atHand tripped .measure 0 1 0).path.slots.get 0).op ≠ BitVec.ofNat 8 Operation.tripClear.code :=
  ⟨by decide, rfl, by decide, by decide⟩

end Sys2Proof.Tests
end

section
/-! Check references as their conversions end (R52, R53): what the converter's next choice leaves, how a check reference is
judged, and what a conversion's end in service makes of it. Settles O48. -/

namespace Sys2Proof.Safety

open Sys2Proof.Machine

/-! ### The converter's next choice (R51) -/

/-- The converter's next choice takes from the scan list and gives the converter its conversion: no other register of the
scan moves. -/
theorem nextConversion_scan (s : State) : s.nextConversion.scan =
    { s.scan with list := s.nextConversion.scan.list, conv := s.nextConversion.scan.conv } := by
  unfold State.nextConversion State.convertScan
  (repeat' split) <;> rfl

/-- On a free converter the scan goes on with its head, where that is a check reference or no MEASURE waits (R51). -/
theorem nextConversion_convertsHead {s : State} {y : Source} {rest : List Source} (hconv : s.scan.conv = none)
    (hlist : s.scan.list = y :: rest) (hturn : y.isCheck = true ∨ s.scan.spots = []) :
    s.nextConversion = s.convertScan y := by
  have hfree : ¬ s.scan.conv.isSome = true := by simp [hconv]
  unfold State.nextConversion
  rw [if_neg hfree, hlist, List.head?_cons]
  rcases hturn with hcheck | hspots
  · simp only [hcheck, if_true]
  · simp only [hspots, State.oldestSpot, ite_self]

/-! ### The judgement of a check reference (R52, R53) -/

/-- A code of CR1 passes within 2 % of 819, 803 to 835 (R52). -/
theorem checkPasses_cr1 (n : Nat) : checkPasses .cr1 n = true ↔ 803 ≤ n ∧ n ≤ 835 := by simp [checkPasses]

/-- A code of CR2 passes within 2 % of 3277, 3212 to 3342 (R52). -/
theorem checkPasses_cr2 (n : Nat) : checkPasses .cr2 n = true ↔ 3212 ≤ n ∧ n ≤ 3342 := by simp [checkPasses]

/-- A passing CR1 raises nothing and is noted for the judgement of CR2. -/
theorem judgeCheck_cr1_passes {n : Nat} (h : checkPasses .cr1 n = true) (s : State) :
    s.judgeCheck .cr1 n = ([], { s with scan := { s.scan with cr1Passed := true } }) := by
  unfold State.judgeCheck
  rw [if_pos h, if_pos rfl]

/-- A passing CR2 passes the check exactly where CR1 has passed (R52). -/
theorem judgeCheck_cr2_passes {n : Nat} (h : checkPasses .cr2 n = true) (s : State) :
    s.judgeCheck .cr2 n = ([], if s.scan.cr1Passed then { s with scan := s.scan.checkPassed } else s) := by
  unfold State.judgeCheck
  rw [if_pos h, if_neg (by decide)]
  split <;> rfl

/-- A failing check reference raises MEASUREMENT_FAULT and sets the measurement state to FAULT (R53). -/
theorem judgeCheck_fails {c : Source} {n : Nat} (h : ¬ checkPasses c n = true) (s : State) :
    (s.judgeCheck c n).1 = [.measurementFault] ∧ (s.judgeCheck c n).2.scan =
      { s.scan with meas := .fault, cr1Passed := s.scan.cr1Passed && decide (c ≠ Source.cr1) } := by
  unfold State.judgeCheck
  rw [if_neg h]
  exact ⟨rfl, rfl⟩

/-- A failing check reference queues MEASUREMENT_FAULT, an alarm of the scan whose parameters fit its first word (R53, R181). -/
theorem judgeCheck_fails_notice {c : Source} {n : Nat} (h : ¬ checkPasses c n = true) (s : State) :
    ∃ w, Group.notice ⟨0x0601, 6, .alarm, w, 0, 0⟩ ∈ (s.judgeCheck c n).2.path.handed := by
  refine ⟨(packParams [p8 c.code, p16 n]).1, ?_⟩
  have hword3 : (packParams [p8 c.code, p16 n]).2 = 0 := rfl
  unfold State.judgeCheck
  rw [if_neg h]
  simp [State.notice, hword3, UnitId.code]

/-- A check that passes moves the measurement state and the recovery flag alone (R53). -/
theorem checkPassed_eq (u : ScanUnit) :
    u.checkPassed = { u with meas := u.checkPassed.meas, recovery := u.checkPassed.recovery } := by
  unfold ScanUnit.checkPassed
  cases u.meas <;> rfl

/-- The check passes from NOT_CHECKED or FAULT into QUALIFYING, and leaves a trusted state (R53). -/
theorem checkPassed_meas (u : ScanUnit) :
    (u.meas = .notChecked ∨ u.meas = .fault → u.checkPassed.meas = .qualifying) ∧
    (u.meas = .valid ∨ u.meas = .qualifying → u.checkPassed.meas = u.meas) := by
  unfold ScanUnit.checkPassed
  cases h : u.meas <;> simp [h]

/-- The judgement of a check reference moves the measurement state, its recovery flag and the note of CR1 alone: it does not
stop the scan (R52). -/
theorem judgeCheck_scan (s : State) (c : Source) (n : Nat) : (s.judgeCheck c n).2.scan = { s.scan with
    meas := (s.judgeCheck c n).2.scan.meas
    recovery := (s.judgeCheck c n).2.scan.recovery
    cr1Passed := (s.judgeCheck c n).2.scan.cr1Passed } := by
  unfold State.judgeCheck
  split
  · split
    · rfl
    · split
      · rw [checkPassed_eq s.scan]
      · rfl
  · rfl

/-! ### A conversion that adds to a MEASURE (R56) -/

/-- A conversion made for a MEASURE moves the spot-request list and no other register of the scan. -/
theorem spotValue_scan (s : State) (k : Slot) (v : Int) (n : Nat) :
    (s.spotValue k v n).scan = { s.scan with spots := (s.spotValue k v n).scan.spots } := by
  unfold State.spotValue
  split
  · rfl
  · dsimp only
    split
    · simp [State.finishSpot]
    · rfl

/-- Where the single entry has conversions left to make, it takes the conversion and stays. -/
theorem spotValue_stays {s : State} {y : Spot} (hspots : s.scan.spots = [y]) (hleft : 2 ≤ y.remaining) (v : Int) (n : Nat) :
    (s.spotValue y.slot v n).scan.spots = [y.add v n] := by
  have hmore : (y.add v n).remaining ≠ 0 := by simp only [Spot.add]; omega
  unfold State.spotValue
  simp [hspots, hmore]

/-! ### The end of a conversion (R51) -/

/-- The state with the converter free. -/
def converterFreed (s : State) : State := { s with scan := { s.scan with conv := none } }

theorem converterFreed_scan (s : State) : (converterFreed s).scan = { s.scan with conv := none } := rfl

/-- CONVERSION_END ends the conversion in progress and the units react. -/
theorem exec_conversionEnd {s : State} {c : Conversion} (h : s.scan.conv = some c) (code : BitVec 12) :
    exec (.conversionEnd code) s =
      .next ((s.conversionEnds c code.toNat).2.react s (s.conversionEnds c code.toNat).1 false).entered := by
  have harm : exec (.conversionEnd code) s = execConversionEnd code s := rfl
  rw [harm]
  unfold execConversionEnd
  rw [h]

/-- A check reference of the scan list is judged, then the next conversion is chosen (R52). -/
theorem conversionEnds_check {c : Source} (h : c.isCheck = true) (s : State) (n : Nat) :
    s.conversionEnds ⟨c, .scanList⟩ n =
      (((converterFreed s).judgeCheck c n).1, ((converterFreed s).judgeCheck c n).2.nextConversion) := by
  unfold State.conversionEnds
  simp only [h, if_true]
  rfl

/-- A conversion of any source made for a MEASURE goes to its slot alone, then the next conversion is chosen (R52, R56). -/
theorem conversionEnds_spot (c : Source) (k : Slot) (s : State) (n : Nat) :
    s.conversionEnds ⟨c, .spot k⟩ n =
      ([], ((converterFreed s).spotValue k (sourceValue s.cfg c n) n).nextConversion) := rfl

/-- The state in which the event of a judged check reference ends, before the groups it handed enter the queue. -/
def afterCheck (s : State) (c : Source) (n : Nat) : State :=
  ((converterFreed s).judgeCheck c n).2.nextConversion.react s ((converterFreed s).judgeCheck c n).1 false

/-- The state in which the event of a MEASURE conversion ends, before the groups it handed enter the queue. -/
def afterSpot (s : State) (c : Source) (k : Slot) (n : Nat) : State :=
  ((converterFreed s).spotValue k (sourceValue s.cfg c n) n).nextConversion.react s [] false

theorem exec_conversionEnd_check {s : State} {c : Source} (hc : c.isCheck = true)
    (h : s.scan.conv = some ⟨c, .scanList⟩) (code : BitVec 12) :
    exec (.conversionEnd code) s = .next (afterCheck s c code.toNat).entered := by
  rw [exec_conversionEnd h, conversionEnds_check hc]
  rfl

theorem exec_conversionEnd_spot {s : State} {c : Source} {k : Slot} (h : s.scan.conv = some ⟨c, .spot k⟩)
    (code : BitVec 12) : exec (.conversionEnd code) s = .next (afterSpot s c k code.toNat).entered := by
  rw [exec_conversionEnd h, conversionEnds_spot]
  rfl

theorem afterCheck_scan (s : State) (c : Source) (n : Nat) :
    (afterCheck s c n).scan = ((converterFreed s).judgeCheck c n).2.nextConversion.scan := by
  simp [afterCheck]

theorem afterSpot_scan (s : State) (c : Source) (k : Slot) (n : Nat) : (afterSpot s c k n).scan =
    ((converterFreed s).spotValue k (sourceValue s.cfg c n) n).nextConversion.scan := by
  simp [afterSpot]

/-- The next choice and the reactions leave what the judgement made of the measurement state and of the note of CR1. -/
theorem afterCheck_meas (s : State) (c : Source) (n : Nat) :
    (afterCheck s c n).scan.meas = ((converterFreed s).judgeCheck c n).2.scan.meas ∧
    (afterCheck s c n).scan.cr1Passed = ((converterFreed s).judgeCheck c n).2.scan.cr1Passed := by
  rw [afterCheck_scan, nextConversion_scan]
  exact ⟨rfl, rfl⟩

/-- The last values are those of the field channels: a check reference leaves them. -/
theorem afterCheck_last (s : State) (c : Source) (n : Nat) : (afterCheck s c n).scan.last = s.scan.last := by
  rw [afterCheck_scan, nextConversion_scan, judgeCheck_scan, converterFreed_scan]

/-- Passed or failed, the scan continues with its next source (R52). -/
theorem afterCheck_continues {s : State} {y : Source} {rest : List Source} (c : Source) (n : Nat)
    (hlist : s.scan.list = y :: rest) (hturn : y = .cr2 ∨ s.scan.spots = []) :
    (afterCheck s c n).scan.conv = some ⟨y, .scanList⟩ ∧ (afterCheck s c n).scan.list = rest := by
  have hscan := judgeCheck_scan (converterFreed s) c n
  rw [converterFreed_scan] at hscan
  have hlist' : ((converterFreed s).judgeCheck c n).2.scan.list = y :: rest := by rw [hscan]; exact hlist
  have hturn' : y.isCheck = true ∨ ((converterFreed s).judgeCheck c n).2.scan.spots = [] := by
    rw [hscan]
    exact hturn.imp_left fun hy => by rw [hy]; rfl
  rw [afterCheck_scan, nextConversion_convertsHead (by rw [hscan]) hlist' hturn']
  exact ⟨rfl, by simp [State.convertScan, hlist']⟩

/-- A failing check reference sets FAULT, is noted where it is CR1, queues its notice, and in service is a trip (R53). -/
theorem afterCheck_fails {c : Source} {n : Nat} (h : ¬ checkPasses c n = true) (s : State) :
    (afterCheck s c n).scan.meas = .fault ∧ (c = .cr1 → (afterCheck s c n).scan.cr1Passed = false)
      ∧ (∃ w, Group.notice ⟨0x0601, 6, .alarm, w, 0, 0⟩ ∈ (afterCheck s c n).path.handed)
      ∧ (s.inService = true →
          (afterCheck s c n).sup.state = .trip ∧ Cause.measurementFault ∈ (afterCheck s c n).sup.causes) := by
  obtain ⟨hmeas, hcr1⟩ := afterCheck_meas s c n
  obtain ⟨hcauses, hscan⟩ := judgeCheck_fails h (converterFreed s)
  obtain ⟨w, hw⟩ := judgeCheck_fails_notice h (converterFreed s)
  refine ⟨by rw [hmeas, hscan], fun hc => by rw [hcr1, hscan]; simp [hc], ⟨w, ?_⟩, fun hserves => ?_⟩
  · have hgrows : Grows ((converterFreed s).judgeCheck c n).2.path (afterCheck s c n).path := by simp [afterCheck]
    exact hgrows.subset hw
  · have hserves' : ((converterFreed s).judgeCheck c n).2.nextConversion.inService = true := by
      simpa [State.inService, converterFreed] using hserves
    exact react_trips (by rw [hcauses]; exact List.mem_singleton_self _) hserves' s false

/-- A passing CR1 leaves the measurement state and is noted. -/
theorem afterCheck_cr1_passes {n : Nat} (h : checkPasses .cr1 n = true) (s : State) :
    (afterCheck s .cr1 n).scan.meas = s.scan.meas ∧ (afterCheck s .cr1 n).scan.cr1Passed = true := by
  obtain ⟨hmeas, hcr1⟩ := afterCheck_meas s .cr1 n
  rw [hmeas, hcr1, judgeCheck_cr1_passes h]
  exact ⟨rfl, rfl⟩

/-- A passing CR2 after a passing CR1 passes the check (R52). -/
theorem afterCheck_bothPass {n : Nat} (h : checkPasses .cr2 n = true) {s : State} (hcr1 : s.scan.cr1Passed = true) :
    (afterCheck s .cr2 n).scan.meas = s.scan.checkPassed.meas := by
  have hfreed : (converterFreed s).scan.cr1Passed = true := hcr1
  have hsame : (converterFreed s).scan.checkPassed.meas = s.scan.checkPassed.meas := by
    rw [converterFreed_scan]
    unfold ScanUnit.checkPassed
    cases hm : s.scan.meas <;> simp [hm]
  rw [(afterCheck_meas s .cr2 n).1, judgeCheck_cr2_passes h, if_pos hfreed]
  exact hsame

/-- A passing CR2 after a failed CR1 leaves the measurement state (R52). -/
theorem afterCheck_cr2_alone {n : Nat} (h : checkPasses .cr2 n = true) {s : State} (hcr1 : s.scan.cr1Passed = false) :
    (afterCheck s .cr2 n).scan.meas = s.scan.meas := by
  have hfreed : ¬ (converterFreed s).scan.cr1Passed = true := by simp [converterFreed, hcr1]
  rw [(afterCheck_meas s .cr2 n).1, judgeCheck_cr2_passes h, if_neg hfreed]
  rfl

/-- A conversion made for a MEASURE is not judged: of the scan it can move the spot requests and the converter's choice alone
(R52). -/
theorem afterSpot_notJudged (s : State) (c : Source) (k : Slot) (n : Nat) :
    (afterSpot s c k n).scan.meas = s.scan.meas ∧ (afterSpot s c k n).scan.cr1Passed = s.scan.cr1Passed ∧
      (afterSpot s c k n).scan.last = s.scan.last := by
  rw [afterSpot_scan, nextConversion_scan, spotValue_scan]
  exact ⟨rfl, rfl, rfl⟩

/-- The code of a conversion made for the single MEASURE goes to its slot (R52, R56). -/
theorem afterSpot_stays {s : State} {y : Spot} (hspots : s.scan.spots = [y]) (hleft : 2 ≤ y.remaining) (c : Source)
    (n : Nat) : (afterSpot s c y.slot n).scan.spots = [y.add (sourceValue s.cfg c n) n] := by
  rw [afterSpot_scan, nextConversion_scan]
  exact spotValue_stays (s := converterFreed s) hspots hleft _ _

/-- Settles O48, by the judgement of each check reference at its bounds and the frame of what follows it in the event. -/
theorem checkReferencesAreJudgedByTheirCodes : Obligations.CheckReferencesAreJudgedByTheirCodes := by
  intro s code x lo hi hx
  have hcheck : x.isCheck = true := by rcases hx with ⟨rfl, -⟩ | ⟨rfl, -⟩ <;> rfl
  have hpasses : checkPasses x code.toNat = true ↔ lo ≤ code.toNat ∧ code.toNat ≤ hi := by
    rcases hx with ⟨rfl, rfl, rfl⟩ | ⟨rfl, rfl, rfl⟩
    · exact checkPasses_cr1 _
    · exact checkPasses_cr2 _
  constructor
  · intro hconv
    refine ⟨_, exec_conversionEnd_check hcheck hconv code, afterCheck_last _ _ _,
      fun y rest hlist hturn => afterCheck_continues x _ hlist hturn, fun hout => ?_, fun hlo hhi => ?_⟩
    · have hfails : ¬ checkPasses x code.toNat = true := by rw [hpasses]; omega
      exact afterCheck_fails hfails s
    · have hpass := hpasses.2 ⟨hlo, hhi⟩
      refine ⟨?_, ?_, ?_⟩
      · rintro rfl
        exact afterCheck_cr1_passes hpass s
      · rintro rfl hcr1
        rw [afterCheck_bothPass hpass hcr1]
        exact checkPassed_meas s.scan
      · rintro rfl hcr1
        exact afterCheck_cr2_alone hpass hcr1
  · intro k hconv
    obtain ⟨hmeas, hcr1, hlast⟩ := afterSpot_notJudged s x k code.toNat
    refine ⟨_, exec_conversionEnd_spot hconv code, hmeas, hcr1, hlast, ?_⟩
    rintro y hspots rfl hleft
    exact ⟨_, afterSpot_stays hspots hleft x _, rfl, rfl⟩

end Sys2Proof.Safety
end

section
/-! The service brake claims through the end of an event (R112, R168), and a state of CONFIG_FAULT that a STABLE takes to
STABLED with an output that is not the greatest claim. Refutes O25. -/

namespace Sys2Proof.Safety

open Sys2Proof.Machine

/-! ### What enters the queue leaves the claims (R112, R168) -/

/-- What the statement of R112 reads of a state: the run state, the three claims (the accepted SERVICE_BRAKE, the
Supervisor's, the test's) and the service brake output. -/
structure BrakeClaims where
  runState : RunState
  demand : Nat
  supervisor : Nat
  test : Nat
  output : Nat
  deriving DecidableEq

/-- The claims as they stand in a state. -/
def brakeClaims (s : State) : BrakeClaims :=
  ⟨s.run.runState, s.rbc.serviceDemand, s.sup.claim, s.rbc.testClaim, s.rbc.serviceOutput⟩

/-- The claims of a state say whether its output is the greatest of them. -/
theorem greatestClaim_iff (s : State) : GreatestClaim s ↔
    (brakeClaims s).output = max (brakeClaims s).demand (max (brakeClaims s).supervisor (brakeClaims s).test) := Iff.rfl

theorem brakeClaims_of_frame {s t : State} (hrun : t.run = s.run) (hsup : t.sup = s.sup) (hrbc : t.rbc = s.rbc) :
    brakeClaims t = brakeClaims s := by
  unfold brakeClaims
  rw [hrun, hsup, hrbc]

/-- A rewrite that waits is noted beside the accepted value, which stands. -/
theorem setRewriteWaiting_brakeClaims (s : State) (g : Guarded) (b : Bool) :
    brakeClaims (s.setRewriteWaiting g b) = brakeClaims s := by
  cases g <;> rfl

/-- A completion that reaches memory ends a BUSY rule at most (R90, R157). -/
theorem slotDone_brakeClaims (s : State) (k : Slot) (n : Nat) : brakeClaims (s.slotDone k n) = brakeClaims s := by
  unfold State.slotDone
  dsimp only
  split <;> rfl

theorem applyEffect_brakeClaims (s : State) (e : WriteEffect) : brakeClaims (s.applyEffect e) = brakeClaims s := by
  cases e with
  | slotDone k n => exact slotDone_brakeClaims s k n
  | inboundProducer v b =>
    cases b with
    | none => rfl
    | some i =>
      exact brakeClaims_of_frame (by simp [State.applyEffect]) (by simp [State.applyEffect]) (by simp [State.applyEffect])
  | plain | noticeProducer _ | outboundConsumer _ | flashWord _ | recordWord _ => rfl

theorem reach_brakeClaims (s : State) (e : QEntry) : brakeClaims (s.reach e) = brakeClaims s := by
  cases e with
  | write a w eff => exact applyEffect_brakeClaims _ eff
  | read a p => exact brakeClaims_of_frame (by simp [State.reach]) (by simp [State.reach]) (by simp [State.reach])
  | rewrite g =>
    unfold State.reach
    dsimp only
    split <;> exact setRewriteWaiting_brakeClaims _ g false

theorem grantEntry_brakeClaims (s : State) (e : QEntry) (rest : List QEntry) :
    brakeClaims (s.grantEntry e rest) = brakeClaims s := reach_brakeClaims _ e

theorem grantAccess_brakeClaims (s : State) (a : Access) (n : Nat) : brakeClaims (s.grantAccess a n) = brakeClaims s :=
  brakeClaims_of_frame (by simp) (by simp) (by simp)

theorem grant_brakeClaims (s : State) : brakeClaims s.grant = brakeClaims s := by
  unfold State.grant
  split
  · rfl
  · split
    · rfl
    · exact grantAccess_brakeClaims s _ _
    · exact grantEntry_brakeClaims s _ _
    · split
      · exact grantAccess_brakeClaims s _ _
      · exact grantEntry_brakeClaims s _ _

theorem pushEntering_brakeClaims (s : State) : brakeClaims s.pushEntering = brakeClaims s :=
  brakeClaims_of_frame (by simp) (by simp) (by simp)

theorem serveQueue_brakeClaims (s : State) : brakeClaims s.serveQueue = brakeClaims s := by
  unfold State.serveQueue
  rw [pushEntering_brakeClaims, grant_brakeClaims, pushEntering_brakeClaims]

theorem takeGroup_brakeClaims (s : State) (g : Group) : brakeClaims (s.takeGroup g) = brakeClaims s := by
  unfold State.takeGroup
  split
  · rw [serveQueue_brakeClaims]
    exact brakeClaims_of_frame (by simp) (by simp) (by simp)
  · rfl

theorem takeHanded_brakeClaims (s : State) : brakeClaims s.takeHanded = brakeClaims s := by
  unfold State.takeHanded
  dsimp only
  split
  · rfl
  · split <;> exact foldl_keeps brakeClaims State.takeGroup takeGroup_brakeClaims _ _

/-- What an event has handed enters or waits without a change of the claims or of the run state (R168). -/
theorem entered_brakeClaims (s : State) : brakeClaims s.entered = brakeClaims s := by
  unfold State.entered
  rw [takeHanded_brakeClaims, takeHanded_brakeClaims]

/-! ### A STABLE handed over in CONFIG_FAULT (R157, R175) -/

/-- A slot with an accepted STABLE whose operands have returned. -/
def stableAtHand : SlotRec :=
  ⟨.inFlight, BitVec.ofNat 8 Operation.stable.code, 0, some 0, some 0, some 0, some 0, some 0, false⟩

/-- CONFIG_FAULT with an accepted SERVICE_BRAKE of 50 and the output 0 of R39, at standstill, with a window map, a STABLE in
slot 0 and the command that hands it over. No run from reset brings it: CONFIG_FAULT is entered before a map is taken (R36
to R39). But the statement's step clause is about every state, asks nothing of one in CONFIG_FAULT, and SLOT_DISPATCH does
not ask for the run state. -/
def faultedWithStable : State := { State.reset with
  run := ⟨.configFault, 200, none⟩
  path := { PathUnit.reset with
    map := some ⟨0x1000, 0x1040, 0x1100, 0x1200, 0x1680, 0x1B00, 0x2000⟩
    slots := PathUnit.reset.slots.set 0 stableAtHand }
  motion := { MotionUnit.reset with standstill := true }
  rbc := { BrakeUnit.reset with serviceDemand := 50 }
  pending := [.slotDispatch 0] }

theorem step_faultedWithStable :
    step faultedWithStable = .next ((faultedWithStable.withPending []).slotDispatch 0).entered := rfl

/-- The hand-over enters STABLED, and no input of the Supervisor changes, so nothing forms the output anew (R86, R158). -/
theorem slotDispatch_faultedWithStable :
    brakeClaims ((faultedWithStable.withPending []).slotDispatch 0) = ⟨.stabled, 50, 0, 0, 0⟩ := by decide

/-- Refutes O25: the step clause fails at a STABLE handed over in CONFIG_FAULT, which leaves that state for STABLED with the
output 0 under a demand of 50. -/
theorem not_serviceBrakeOutputIsTheGreatestClaim : ¬ Obligations.ServiceBrakeOutputIsTheGreatestClaim := by
  rintro ⟨-, -, hstep, -⟩
  have hclaims := (entered_brakeClaims _).trans slotDispatch_faultedWithStable
  have hrun : ((faultedWithStable.withPending []).slotDispatch 0).entered.run.runState = .stabled :=
    congrArg BrakeClaims.runState hclaims
  have hgreatest := hstep faultedWithStable _ (fun hnotFault => absurd rfl hnotFault) step_faultedWithStable
    (by rw [hrun]; decide)
  rw [greatestClaim_iff, hclaims] at hgreatest
  exact absurd hgreatest (by decide)

end Sys2Proof.Safety
end

section
/-! Ring index writes as they arrive (R170, R171): where a full-word write to an index goes, what an index taken from its span
leaves, and the notice count it may report (R173). Settles O18. -/

namespace Sys2Proof.Safety

open Sys2Proof.Machine

/-! ### The way of an index write (R165, R166) -/

/-- A full-word consumer write of a served computer is classified at once. -/
theorem exec_consumerIndexWrite {s : State} {m : WindowMap} (h : Serving s m) (addr : Addr) (data : Word) :
    exec (.consumerIndexWrite addr data) s = .next (s.busWrite m (wordWrite addr data)).entered := by
  have harm : exec (.consumerIndexWrite addr data) s = .next (s.busAccess (wordWrite addr data)).entered := rfl
  rw [harm, busAccess_served h]
  rfl

/-- A full-word producer write of a served computer is classified at once. -/
theorem exec_outboundProducerWrite {s : State} {m : WindowMap} (h : Serving s m) (addr : Addr) (data : Word) :
    exec (.outboundProducerWrite addr data) s = .next (s.busWrite m (wordWrite addr data)).entered := by
  have harm : exec (.outboundProducerWrite addr data) s = .next (s.busAccess (wordWrite addr data)).entered := rfl
  rw [harm, busAccess_served h]
  rfl

section
variable {m : WindowMap} {addr : Addr}

theorem busWrite_noticeConsumer (h : classify m addr = .noticeConsumer) (s : State) (data : Word) :
    s.busWrite m (wordWrite addr data) = s.noticeConsumerWrite (wordWrite addr data) := by
  simp [State.busWrite, wordWrite, h]

theorem busWrite_inboundConsumer (h : classify m addr = .inboundConsumer) (s : State) (data : Word) :
    s.busWrite m (wordWrite addr data) = s.inboundConsumerWrite (wordWrite addr data) := by
  simp [State.busWrite, wordWrite, h]

theorem busWrite_outboundProducer (h : classify m addr = .outboundProducer) (s : State) (data : Word) :
    s.busWrite m (wordWrite addr data) = s.outboundProducerWrite (wordWrite addr data) := by
  simp [State.busWrite, wordWrite, h]

end

/-- A full-word write refused with RANGE is absorbed with all four byte enables (R166). -/
theorem writeRefused_range (s : State) (addr : Addr) (data : Word) :
    s.writeRefused (wordWrite addr data) .range = absorbed s addr 0xF data .range := rfl

theorem inRing_iff (n a b v : Nat) : inRing n a b v = true ↔ v < n ∧ (v + n - a) % n ≤ (b + n - a) % n := by
  simp [inRing]

/-! ### A full-word write joins the arbitration (R167, R169) -/

/-- What the arbiter reads of the Path Unit stands. -/
def SamePort (p q : PathUnit) : Prop :=
  p.portBusy = q.portBusy ∧ p.access = q.access ∧ p.queue = q.queue ∧ p.entering = q.entering

theorem PortIdle.of_samePort {s u : State} (hidle : PortIdle s) (hport : SamePort u.path s.path) : PortIdle u := by
  obtain ⟨hbusy, haccess, hqueue, hentering⟩ := hport
  exact portIdle_of hidle hbusy haccess fun hq he => ⟨hqueue.trans hq, hentering.trans he⟩

theorem submit_writeJoins {s u : State} (hidle : PortIdle s) (hport : SamePort u.path s.path) (hmem : u.mem = s.mem)
    (addr : Addr) (data : Word) : WriteJoins s (u.submit (wordWrite addr data)) addr data := by
  obtain ⟨hfree, hbusy⟩ := submit_joins (hidle.of_samePort hport) (wordWrite addr data) rfl
  rw [hport.1] at hfree hbusy
  rw [WriteJoins, ← hmem]
  constructor
  · intro h
    rw [hfree h]
    exact ⟨rfl, rfl, by simp only [wordWrite, Memory.writeWord]⟩
  · intro h
    rw [hbusy h]
    exact ⟨rfl, rfl⟩

/-- Where nothing waits for a free port, a write that joins moves memory, the access and the port alone. -/
theorem submit_moves {u : State} (hidle : PortIdle u) (addr : Addr) (data : Word) : ∃ mem access busy,
    u.submit (wordWrite addr data) =
      { u with mem := mem, path := { u.path with access := access, portBusy := busy } } := by
  obtain ⟨hfree, hbusy⟩ := submit_joins hidle (wordWrite addr data) rfl
  cases h : u.path.portBusy with
  | false => exact ⟨_, _, _, hfree h⟩
  | true => exact ⟨u.mem, some (wordWrite addr data), u.path.portBusy, hbusy h⟩

/-- An index taken in the Path Unit alone, on the port as it stands: its write joins, and beside memory, the access and the
port nothing moves but what the taking moved. -/
theorem submit_taken {s u : State} (hidle : PortIdle s) (hunits : u = { s with path := u.path })
    (hport : SamePort u.path s.path) (addr : Addr) (data : Word) :
    WriteJoins s (u.submit (wordWrite addr data)) addr data ∧ ∃ mem access busy,
      u.submit (wordWrite addr data) =
        { s with mem := mem, path := { u.path with access := access, portBusy := busy } } := by
  refine ⟨submit_writeJoins hidle hport (by rw [hunits]) addr data, ?_⟩
  obtain ⟨mem, access, busy, hsubmit⟩ := submit_moves (hidle.of_samePort hport) addr data
  refine ⟨mem, access, busy, hsubmit.trans ?_⟩
  rw [hunits]

/-! ### The NOTICE consumer (R170, R173) -/

/-- The state with a NOTICE consumer index taken: a slot it frees lets the dropped count be reported. -/
def noticeTaken (s : State) (v : Nat) : State :=
  if v = s.path.noticeConsumer then { s with path := { s.path with noticeConsumer := v } }
  else State.reportDropped { s with path := { s.path with noticeConsumer := v } }

/-- The taking moves the copy, the dropped count and the handed groups alone. -/
theorem noticeTaken_eq (s : State) (v : Nat) : noticeTaken s v = { s with path := { s.path with
    noticeConsumer := v, dropped := (noticeTaken s v).path.dropped, handed := (noticeTaken s v).path.handed } } := by
  unfold noticeTaken State.reportDropped
  (repeat' split) <;> rfl

/-- A write that frees a slot with the count above 0 reports the count and clears it (R173). -/
theorem noticeTaken_reports {s : State} {v : Nat} (hmoves : v ≠ s.path.noticeConsumer) (hdropped : 0 < s.path.dropped) :
    (noticeTaken s v).path.dropped = 0 ∧ (noticeTaken s v).path.handed =
      s.path.handed ++ [.notice ⟨0x0102, 1, .warn, wordOf s.path.dropped, 0, s.path.dropped⟩] := by
  have hcount : ¬ s.path.dropped = 0 := by omega
  unfold noticeTaken State.reportDropped
  rw [if_neg hmoves, if_neg hcount]
  exact ⟨rfl, rfl⟩

/-- An equal index, or one that comes with nothing dropped, reports nothing (R170, R173). -/
theorem noticeTaken_silent {s : State} {v : Nat} (h : v = s.path.noticeConsumer ∨ s.path.dropped = 0) :
    (noticeTaken s v).path.dropped = s.path.dropped ∧ (noticeTaken s v).path.handed = s.path.handed := by
  unfold noticeTaken State.reportDropped
  split
  · exact ⟨rfl, rfl⟩
  · next hmoves =>
    rw [if_pos (h.resolve_left hmoves)]
    exact ⟨rfl, rfl⟩

/-- A NOTICE consumer write is judged by the span up to the producer as last written (R170). -/
theorem noticeConsumerWrite_judged (s : State) (addr : Addr) (data : Word) :
    s.noticeConsumerWrite (wordWrite addr data) =
      if inRing 64 s.path.noticeConsumer s.path.published data.toNat then
        (noticeTaken s data.toNat).submit (wordWrite addr data)
      else absorbed s addr 0xF data .range := rfl

/-- A taken NOTICE consumer write stores the index, joins the arbitration, and moves no other unit. -/
theorem noticeTaken_submit {s : State} (hidle : PortIdle s) (addr : Addr) (data : Word) :
    WriteJoins s ((noticeTaken s data.toNat).submit (wordWrite addr data)) addr data ∧ ∃ mem access busy,
      (noticeTaken s data.toNat).submit (wordWrite addr data) = { s with mem := mem, path := { s.path with
        noticeConsumer := data.toNat
        dropped := (noticeTaken s data.toNat).path.dropped
        handed := (noticeTaken s data.toNat).path.handed
        access := access
        portBusy := busy } } := by
  have heq := noticeTaken_eq s data.toNat
  have hport : SamePort (noticeTaken s data.toNat).path s.path := by
    rw [heq]
    exact ⟨rfl, rfl, rfl, rfl⟩
  obtain ⟨hjoins, mem, access, busy, hsubmit⟩ := submit_taken hidle (by rw [heq]) hport addr data
  refine ⟨hjoins, mem, access, busy, hsubmit.trans ?_⟩
  rw [heq]

/-! ### The INBOUND consumer (R170) -/

/-- The state with an INBOUND consumer index taken. -/
def inboundTaken (s : State) (v : Nat) : State := { s with path := { s.path with inboundConsumer := v } }

/-- An INBOUND consumer write is judged by the span up to the producer as last written (R170). -/
theorem inboundConsumerWrite_judged (s : State) (addr : Addr) (data : Word) :
    s.inboundConsumerWrite (wordWrite addr data) =
      if inRing 16 s.path.inboundConsumer s.path.inboundWritten data.toNat then
        (inboundTaken s data.toNat).submit (wordWrite addr data)
      else absorbed s addr 0xF data .range := rfl

/-! ### The OUTBOUND producer (R171, R153) -/

/-- The state with an OUTBOUND producer index taken. -/
def outboundTaken (s : State) (v : Nat) : State := { s with path := { s.path with outboundProducer := v } }

/-- An OUTBOUND producer write is judged by the span up to the slot before the consumer; a taken one lets a slot be read
(R171, R153). -/
theorem outboundProducerWrite_judged (s : State) (addr : Addr) (data : Word) :
    s.outboundProducerWrite (wordWrite addr data) =
      if inRing 16 s.path.outboundProducer ((s.path.outboundWritten + 15) % 16) data.toNat then
        ((outboundTaken s data.toNat).submit (wordWrite addr data)).fillTransmit
      else absorbed s addr 0xF data .range := rfl

/-- The read of an OUTBOUND slot that begins behind a write leaves the write where it joined (R153, R168). -/
theorem WriteJoins.fillTransmit {s t : State} {addr : Addr} {data : Word} (h : WriteJoins s t addr data) :
    WriteJoins s t.fillTransmit addr data := by
  have hpath := PathUnit.still_eq (p := t.fillTransmit.path) (q := t.path) (by simp)
  have hmem : t.fillTransmit.mem = t.mem := by simp
  rw [WriteJoins, hmem, hpath]
  exact h

/-- The read of an OUTBOUND slot moves the valley link and the handed groups alone (R153). -/
theorem fillTransmit_moves (t : State) : t.fillTransmit = { t with
    vlu := t.fillTransmit.vlu, path := { t.path with handed := t.fillTransmit.path.handed } } := by
  unfold State.fillTransmit
  (repeat' split) <;> rfl

/-- Settles O18: each ring's judgement is its span test, and a taken index moves only what `submit_taken` names. -/
theorem ringIndicesAreJudgedByTheirRing : Obligations.RingIndicesAreJudgedByTheirRing := by
  refine ⟨fun s m addr data hserving hidle => ⟨fun hclass => ?notice, fun hclass => ?inbound⟩,
    fun s m addr data hserving hidle hclass => ?outbound⟩
  case notice =>
    rw [← inRing_iff, exec_consumerIndexWrite hserving, busWrite_noticeConsumer hclass, noticeConsumerWrite_judged]
    refine ⟨fun hspan => ?_, fun hspan => by rw [if_neg hspan]⟩
    obtain ⟨hjoins, mem, access, busy, hsubmit⟩ := noticeTaken_submit hidle addr data
    refine ⟨_, by rw [if_pos hspan], ?_, hjoins, ?_⟩
    · rw [hsubmit]
    · rw [hsubmit]
      exact ⟨⟨rfl, rfl, rfl, rfl, rfl, rfl, rfl⟩, rfl, noticeTaken_reports, noticeTaken_silent⟩
  case inbound =>
    rw [← inRing_iff, exec_consumerIndexWrite hserving, busWrite_inboundConsumer hclass, inboundConsumerWrite_judged]
    refine ⟨fun hspan => ?_, fun hspan => by rw [if_neg hspan]⟩
    obtain ⟨hjoins, mem, access, busy, hsubmit⟩ :=
      submit_taken (u := inboundTaken s data.toNat) hidle rfl ⟨rfl, rfl, rfl, rfl⟩ addr data
    refine ⟨_, by rw [if_pos hspan], ?_, hjoins, ?_⟩
    · rw [hsubmit]
      rfl
    · rw [hsubmit]
      exact ⟨⟨rfl, rfl, rfl, rfl, rfl, rfl, rfl⟩, rfl⟩
  case outbound =>
    rw [← inRing_iff, exec_outboundProducerWrite hserving, busWrite_outboundProducer hclass, outboundProducerWrite_judged]
    refine ⟨fun hspan => ?_, fun hspan => by rw [if_neg hspan]⟩
    obtain ⟨hjoins, mem, access, busy, hsubmit⟩ :=
      submit_taken (u := outboundTaken s data.toNat) hidle rfl ⟨rfl, rfl, rfl, rfl⟩ addr data
    refine ⟨_, by rw [if_pos hspan], ?_, hjoins.fillTransmit, ?_⟩
    · rw [fillTransmit_moves, hsubmit]
      rfl
    · rw [fillTransmit_moves, hsubmit]
      exact ⟨⟨rfl, rfl, rfl, rfl, rfl, rfl, rfl⟩, rfl, rfl, rfl, rfl⟩

end Sys2Proof.Safety
end
